-- ==== Sys2Proof/Word.lean ====
section
/-! DEFINITION. The word types of the Timer unit block: the 32-bit command word (30_encoding.md R100) and the 8-bit
register byte (20_memory.md R80). -/

namespace Sys2Proof

/-- A command word, or the DATA of a response (R100, R44). -/
abbrev Word := BitVec 32

/-- A byte of the register space, an 8-bit counter, a slot's code (R80, R34, R38). -/
abbrev Byte := BitVec 8

end Sys2Proof
end

