-- ==== Sys2Proof/Syntax.lean ====
section
/-! DEFINITION. The command set: one constructor for each of the 25 rows of spec/opcode_table.json (30_encoding.md R117), with
the fields of its format (R101) at their widths, and the names of the eleven rejection codes (60_exceptions.md R321). -/

namespace Sys2Proof

/-- A command. Its fields are the raw fields of the command word: a field outside its legal set is a command that the block
rejects when it runs (R121, R321), not a word it cannot read. -/
inductive Instr
  | nop
  | rdreg (addr : BitVec 8)
  | uread
  | tinit (tmr mode : BitVec 2) (cs : BitVec 3)
  | tstop (tmr : BitVec 2)
  | tsetcnt (tmr : BitVec 2) (val : BitVec 16)
  | tsetocr (tmr : BitVec 2) (ch : BitVec 1) (val : BitVec 16)
  | tseticr (tmr : BitVec 2) (val : BitVec 16)
  | tsetduty (tmr : BitVec 2) (ch : BitVec 1) (p : BitVec 7)
  | tocpin (tmr : BitVec 2) (ch : BitVec 1) (com : BitVec 2)
  | evsetcb (src : BitVec 5) (act : BitVec 8)
  | even (src : BitVec 5)
  | evdis (src : BitVec 5)
  | evclrf (src : BitVec 5)
  | irqack (src : BitVec 5)
  | gieset
  | gieclr
  | xsense (line sense : BitVec 2)
  | hbset (m1 m2 : BitVec 3)
  | minit (smode : BitVec 1)
  | mspeed (p1 p2 : BitVec 7)
  | mdir (dir : BitVec 2)
  | mstop
  | uinit
  | utrig
deriving DecidableEq, Repr

/-- The rejection codes' names (R321). -/
inductive Reject
  | eOpcode | eRsvd | eTimer | eChan | eMode | eCs | eValue | eSrc | eAct | eAddr | eLine
deriving DecidableEq, Repr

end Sys2Proof
end

