-- ==== Sys2Proof/Decode.lean ====
section
/-! DEFINITION. The command encoding (30_encoding.md R100 to R119): the decoder, total on 32-bit words, which rejects a reserved
opcode and a must-be-zero bit by name, and after it the encoder, written from the same table. -/

namespace Sys2Proof

/-- The opcode field OP, bits [31:26] (R100). -/
def opcodeOf (w : Word) : BitVec 6 := w.extractLsb' 26 6

/-- The command that the opcode selects, with its fields taken from their bits (R101, R117); none for a reserved opcode (R118). -/
def fieldsOf (w : Word) : Option Instr :=
  match (opcodeOf w).toNat with
  | 0x00 => some .nop
  | 0x01 => some (.rdreg (w.extractLsb' 0 8))
  | 0x02 => some .uread
  | 0x04 => some (.tinit (w.extractLsb' 24 2) (w.extractLsb' 21 2) (w.extractLsb' 18 3))
  | 0x05 => some (.tstop (w.extractLsb' 24 2))
  | 0x06 => some (.tsetcnt (w.extractLsb' 24 2) (w.extractLsb' 0 16))
  | 0x07 => some (.tsetocr (w.extractLsb' 24 2) (w.extractLsb' 23 1) (w.extractLsb' 0 16))
  | 0x08 => some (.tseticr (w.extractLsb' 24 2) (w.extractLsb' 0 16))
  | 0x09 => some (.tsetduty (w.extractLsb' 24 2) (w.extractLsb' 23 1) (w.extractLsb' 0 7))
  | 0x0A => some (.tocpin (w.extractLsb' 24 2) (w.extractLsb' 23 1) (w.extractLsb' 16 2))
  | 0x10 => some (.evsetcb (w.extractLsb' 21 5) (w.extractLsb' 13 8))
  | 0x11 => some (.even (w.extractLsb' 21 5))
  | 0x12 => some (.evdis (w.extractLsb' 21 5))
  | 0x13 => some (.evclrf (w.extractLsb' 21 5))
  | 0x14 => some (.irqack (w.extractLsb' 21 5))
  | 0x15 => some .gieset
  | 0x16 => some .gieclr
  | 0x18 => some (.xsense (w.extractLsb' 24 2) (w.extractLsb' 22 2))
  | 0x1C => some (.hbset (w.extractLsb' 0 3) (w.extractLsb' 3 3))
  | 0x20 => some (.minit (w.extractLsb' 25 1))
  | 0x21 => some (.mspeed (w.extractLsb' 7 7) (w.extractLsb' 0 7))
  | 0x22 => some (.mdir (w.extractLsb' 24 2))
  | 0x23 => some .mstop
  | 0x28 => some .uinit
  | 0x29 => some .utrig
  | _    => none

/-- The zero mask of the command's row: the bits that must be 0 (R117). -/
def zeroMaskOf : Instr → Word
  | .nop            => 0x03FFFFFF
  | .rdreg _        => 0x03FFFF00
  | .uread          => 0x03FFFFFF
  | .tinit _ _ _    => 0x0083FFFF
  | .tstop _        => 0x00FFFFFF
  | .tsetcnt _ _    => 0x00FF0000
  | .tsetocr _ _ _  => 0x007F0000
  | .tseticr _ _    => 0x00FF0000
  | .tsetduty _ _ _ => 0x007FFF80
  | .tocpin _ _ _   => 0x007CFFFF
  | .evsetcb _ _    => 0x00001FFF
  | .even _         => 0x001FFFFF
  | .evdis _        => 0x001FFFFF
  | .evclrf _       => 0x001FFFFF
  | .irqack _       => 0x001FFFFF
  | .gieset         => 0x03FFFFFF
  | .gieclr         => 0x03FFFFFF
  | .xsense _ _     => 0x003FFFFF
  | .hbset _ _      => 0x03FFFFC0
  | .minit _        => 0x01FFFFFF
  | .mspeed _ _     => 0x03FFC000
  | .mdir _         => 0x00FFFFFF
  | .mstop          => 0x03FFFFFF
  | .uinit          => 0x03FFFFFF
  | .utrig          => 0x03FFFFFF

/-- The decoder: first the opcode check, then the must-be-zero check (R118, R119, R321). -/
def decode (w : Word) : Except Reject Instr :=
  match fieldsOf w with
  | none   => .error .eOpcode
  | some i => if w &&& zeroMaskOf i = 0 then .ok i else .error .eRsvd

/-- The encoder: each command's word, its opcode and its fields side by side from bit 31 down, every other bit 0 (R101, R117). -/
def encode : Instr → Word
  | .nop                => 0x00#6 ++ 0#26
  | .rdreg addr         => 0x01#6 ++ 0#18 ++ addr
  | .uread              => 0x02#6 ++ 0#26
  | .tinit tmr mode cs  => 0x04#6 ++ tmr ++ 0#1 ++ mode ++ cs ++ 0#18
  | .tstop tmr          => 0x05#6 ++ tmr ++ 0#24
  | .tsetcnt tmr val    => 0x06#6 ++ tmr ++ 0#8 ++ val
  | .tsetocr tmr ch val => 0x07#6 ++ tmr ++ ch ++ 0#7 ++ val
  | .tseticr tmr val    => 0x08#6 ++ tmr ++ 0#8 ++ val
  | .tsetduty tmr ch p  => 0x09#6 ++ tmr ++ ch ++ 0#16 ++ p
  | .tocpin tmr ch com  => 0x0A#6 ++ tmr ++ ch ++ 0#5 ++ com ++ 0#16
  | .evsetcb src act    => 0x10#6 ++ src ++ act ++ 0#13
  | .even src           => 0x11#6 ++ src ++ 0#21
  | .evdis src          => 0x12#6 ++ src ++ 0#21
  | .evclrf src         => 0x13#6 ++ src ++ 0#21
  | .irqack src         => 0x14#6 ++ src ++ 0#21
  | .gieset             => 0x15#6 ++ 0#26
  | .gieclr             => 0x16#6 ++ 0#26
  | .xsense line sense  => 0x18#6 ++ line ++ sense ++ 0#22
  | .hbset m1 m2        => 0x1C#6 ++ 0#20 ++ m2 ++ m1
  | .minit smode        => 0x20#6 ++ smode ++ 0#25
  | .mspeed p1 p2       => 0x21#6 ++ 0#12 ++ p1 ++ p2
  | .mdir dir           => 0x22#6 ++ dir ++ 0#24
  | .mstop              => 0x23#6 ++ 0#26
  | .uinit              => 0x28#6 ++ 0#26
  | .utrig              => 0x29#6 ++ 0#26

/-- The command word whose low `nbits` bits are those of `w`, every bit above them 0. -/
def tableWord (nbits w : Nat) : Word := BitVec.ofNat 32 (w % 2 ^ nbits)

/-- What the decoder reads from an instruction whose bits are `w`, numbered as spec/opcode_table.json numbers them; the command
word reaches the block as one unit (20_memory.md R82). -/
def decodeTableWord (nbits w : Nat) : Option Instr :=
  match decode (tableWord nbits w) with
  | .ok i    => some i
  | .error _ => none

end Sys2Proof
end

