-- ==== Sys2Proof/Config.lean ====
section
/-! DEFINITION. The parameters a model instance fixes (00_scope.md R7, 92_eei_decisions.md P1 to P9).
Each type holds exactly the values the spec allows; the instance itself is one opaque constant, so no proof sees a value. -/

namespace Sys2Proof

/-- The five divisors a running timer can have: 1, 8, 64, 256, 1024 (30_encoding.md R106, codes 1 to 5; 10_state.md R37). -/
inductive ClockDiv
  | div1 | div8 | div64 | div256 | div1024
deriving DecidableEq, Repr, Inhabited

/-- The three external-interrupt lines INT0, INT1, INT2 (42_exti.md R200). -/
inductive Line
  | int0 | int1 | int2
deriving DecidableEq, Repr, Inhabited

/-- A positive rational, as P4 and P5 ask of `V_SOUND` and `MAX_DIST`. -/
structure PosRat where
  num : PNat
  den : PNat
deriving DecidableEq, Repr, Inhabited

/-- The parameters of a model instance (R7).
`trigCyclesPred` is TRIG_CYCLES - 1: TRIG_CYCLES is at least 1 (P7), and DEDUCED: less than 2^32, since US.PCNT has 32 bits
(10_state.md R41; log 7). -/
structure Params where
  fClk           : PNat
  pwmCs          : ClockDiv
  rangingCs      : ClockDiv
  vSound         : PosRat
  maxDist        : PosRat
  maxOvf         : Fin 65535
  trigCyclesPred : Fin 4294967295
  echoLine       : Line
deriving DecidableEq, Repr, Inhabited

/-- `TRIG_CYCLES` (P7): an integer at least 1. -/
def Params.trigCycles (P : Params) : Nat := P.trigCyclesPred.val + 1

/-- The model instance's parameters: legal, and otherwise open (P1 to P8). -/
opaque Config.params : Params

/-- `DIST_CONV` (P9): the host's rounding of the exact distance to its floating-point format. -/
opaque Config.distConv : Rat → Float

end Sys2Proof
end

