-- ==== Sys2Proof/Machine/State.lean ====
section
/-! DEFINITION. The state of the block (10_state.md R32): plain data holding every field of R34, R38, R40, R41, R42, R43 and R44,
beside it the two lists that say what HOST, CLOCK and ENV do next (00_scope.md R6), and the state after reset (R60, R61). -/

namespace Sys2Proof.Machine

/-- Waveform modes of T0 and T2 (10_state.md R35); code 3 is reserved and never stored. -/
inductive Mode8
  | normal | ctc | fastPwm
deriving DecidableEq, Repr

/-- Waveform modes of T1 (R35). -/
inductive Mode16
  | normal | ctcOcra | fastPwmIcr | ctcIcr
deriving DecidableEq, Repr

/-- The clock select (R34, R37): stopped, or running with a divisor; codes 6 and 7 are reserved and never stored. -/
inductive ClockSel
  | stop
  | run (d : ClockDiv)
deriving DecidableEq, Repr

/-- Output-compare pin behaviours (30_encoding.md R107). -/
inductive Com
  | disconnect | toggle | nonInverting | inverting
deriving DecidableEq, Repr

/-- An 8-bit timer, T0 or T2 (R34). -/
structure Timer8 where
  mode : Mode8
  cs   : ClockSel
  cnt  : BitVec 8
  psc  : BitVec 10
  ocra : BitVec 8
  coma : Com
  oca  : Bool
deriving DecidableEq, Repr

/-- The 16-bit timer T1 (R34). -/
structure Timer16 where
  mode : Mode16
  cs   : ClockSel
  cnt  : BitVec 16
  psc  : BitVec 10
  ocra : BitVec 16
  ocrb : BitVec 16
  icr  : BitVec 16
  coma : Com
  comb : Com
  oca  : Bool
  ocb  : Bool
deriving DecidableEq, Repr

/-- The eleven event sources, ids 0 to 10 in this order (60_exceptions.md R322). -/
inductive Src
  | t0Cmp | t0Ovf | t1CmpA | t1CmpB | t1Capt | t1Ovf | t2Cmp | t2Ovf | int0 | int1 | int2
deriving DecidableEq, Repr

/-- One value for each event source (R38). -/
structure PerSrc (α : Type) where
  t0Cmp  : α
  t0Ovf  : α
  t1CmpA : α
  t1CmpB : α
  t1Capt : α
  t1Ovf  : α
  t2Cmp  : α
  t2Ovf  : α
  int0   : α
  int1   : α
  int2   : α
deriving DecidableEq, Repr

/-- H-bridge pattern codes (30_encoding.md R113, 44_motor_pwm.md R260). -/
inductive HbCode
  | keep | cw | ccw | fastStop | freeStop
deriving DecidableEq, Repr

/-- The actions a slot can hold (30_encoding.md R112): NONE is `null`. Reserved codes are never stored (41_events.md R188). -/
inductive Action
  | null
  | hostIrq
  | echoEdge
  | echoOvf
  | hb (m1 m2 : HbCode)
deriving DecidableEq, Repr

/-- Sensitivities of an external line (10_state.md R40, 42_exti.md R202). -/
inductive Sense
  | lowLevel | anyEdge | falling | rising
deriving DecidableEq, Repr

/-- An external-interrupt line's own state (R40). -/
structure ExtLine where
  sense : Sense
  prev  : Bool
deriving DecidableEq, Repr

/-- One value for each external line. -/
structure PerLine (α : Type) where
  int0 : α
  int1 : α
  int2 : α
deriving DecidableEq, Repr

/-- The levels of PIN[0..2] in one cycle (00_scope.md R6, 42_exti.md R203). -/
abbrev Pins := PerLine Bool

/-- The expected echo edge (R41). -/
inductive Edge
  | rising | falling
deriving DecidableEq, Repr

/-- The ultrasonic echo accumulator US (R41). -/
structure Ultrasonic where
  on       : Bool
  exp      : Edge
  pcnt     : BitVec 32
  ovf      : BitVec 16
  resTicks : BitVec 24
  resTo    : Bool
  trig     : Bool
deriving DecidableEq, Repr

/-- Speed modes of the motor controller (R42). -/
inductive SpeedMode
  | same | different
deriving DecidableEq, Repr

/-- Directions of the motor controller (R42). -/
inductive Direction
  | forward | backward | right | left
deriving DecidableEq, Repr

/-- The motor controller MC (R42). -/
structure Motor where
  smode  : SpeedMode
  dir    : Direction
  active : Bool
  p1     : BitVec 7
  p2     : BitVec 7
deriving DecidableEq, Repr

/-- An H-bridge channel's output latches (R43). -/
structure HBridge where
  en : Bool
  x  : Bool
  y  : Bool
deriving DecidableEq, Repr

/-- The response of the last command (R44). -/
structure Response where
  err  : Bool
  errc : BitVec 4
  data : Word
deriving DecidableEq, Repr

/-- A turn of one of the two stepping agents (00_scope.md R6): HOST submits a command word, or CLOCK runs a cycle. -/
inductive Turn
  | host (w : Word)
  | clock
deriving DecidableEq, Repr

/-- The block raises no fault (93_implementation_defined.md, treatments: "fault: not used"; 60_exceptions.md R333), so there is
no fault to name: a rejected command is a next state. Nobody raises one, which is safe (log 12). -/
inductive Fault
deriving DecidableEq, Repr

/-- Why a step can be refused. -/
inductive Refusal
  /-- An instruction that has no meaning in this model. Only an arm of exec can answer so, and no arm does. Safe: the machine
  stops where the hardware goes on. -/
  | notModelled (mnemonic : String)
deriving DecidableEq, Repr

/-- The state of the block (R32), and the model's own `agenda` and `env` (log 1, log 3). -/
structure State where
  t0     : Timer8
  t1     : Timer16
  t2     : Timer8
  flag   : PerSrc Bool
  en     : PerSrc Bool
  slot   : PerSrc Action
  irqp   : PerSrc Bool
  gie    : Bool
  line   : PerLine ExtLine
  us     : Ultrasonic
  mc     : Motor
  hb1    : HBridge
  hb2    : HBridge
  temp   : Byte
  resp   : Response
  /-- DESIGN CHOICE (log 1): the turns of HOST and CLOCK still to come, the next one first. -/
  agenda : List Turn
  /-- DESIGN CHOICE (log 3): ENV's levels for the cycles to come, the next cycle's first. -/
  env    : List Pins
deriving DecidableEq, Repr

/-- The levels of undriven pins: 1, the pull-up (42_exti.md R203, D51). -/
def undrivenPins : Pins := ⟨true, true, true⟩

/-- The levels a script gives the next cycle; past its end the pins are undriven. DESIGN CHOICE (log 3). -/
def nextPins : List Pins → Pins
  | []     => undrivenPins
  | p :: _ => p

/-- Every source with the same value. -/
def perSrcConst {α : Type} (a : α) : PerSrc α := ⟨a, a, a, a, a, a, a, a, a, a, a⟩

/-- T0 and T2 after reset (R60). -/
def resetTimer8 : Timer8 :=
  { mode := .normal, cs := .stop, cnt := 0, psc := 0, ocra := 0, coma := .disconnect, oca := false }

/-- T1 after reset (R60). -/
def resetTimer16 : Timer16 :=
  { mode := .normal, cs := .stop, cnt := 0, psc := 0, ocra := 0, ocrb := 0, icr := 0, coma := .disconnect, comb := .disconnect,
    oca := false, ocb := false }

/-- The block after reset (R60), where ENV will supply the levels of `script`: each line's PREV is the level of its pin (R61). -/
def State.resetWith (script : List Pins) : State where
  t0     := resetTimer8
  t1     := resetTimer16
  t2     := resetTimer8
  flag   := perSrcConst false
  en     := perSrcConst false
  slot   := perSrcConst .null
  irqp   := perSrcConst false
  gie    := false
  line   := ⟨⟨.lowLevel, (nextPins script).int0⟩, ⟨.lowLevel, (nextPins script).int1⟩, ⟨.lowLevel, (nextPins script).int2⟩⟩
  us     := { on := false, exp := .rising, pcnt := 0, ovf := 0, resTicks := 0, resTo := false, trig := false }
  mc     := { smode := .same, dir := .forward, active := false, p1 := 0, p2 := 0 }
  hb1    := ⟨false, false, false⟩
  hb2    := ⟨false, false, false⟩
  temp   := 0
  resp   := ⟨false, 0, 0⟩
  agenda := []
  env    := script

/-- The machine right after reset. DESIGN CHOICE (log 4): ENV's script is empty, so the pins are undriven and PREV is 1. -/
def State.reset : State := State.resetWith []

end Sys2Proof.Machine
end

