-- ==== Sys2Proof/Machine/Ops.lean ====
section
/-! DEFINITION. The named operations over the block's state: one value per source or line, the router's fields, the response,
command rejection (60_exceptions.md R321) and the combinators a command's checks are written with. -/

namespace Sys2Proof.Machine

/-- What a command or a step answers. -/
abbrev Result := Host.Outcome State Fault Refusal

/-- The value of source `x`. -/
def PerSrc.get {α : Type} (p : PerSrc α) : Src → α
  | .t0Cmp  => p.t0Cmp
  | .t0Ovf  => p.t0Ovf
  | .t1CmpA => p.t1CmpA
  | .t1CmpB => p.t1CmpB
  | .t1Capt => p.t1Capt
  | .t1Ovf  => p.t1Ovf
  | .t2Cmp  => p.t2Cmp
  | .t2Ovf  => p.t2Ovf
  | .int0   => p.int0
  | .int1   => p.int1
  | .int2   => p.int2

/-- `p` with the value of source `x` replaced by `a`. -/
def PerSrc.set {α : Type} (p : PerSrc α) (x : Src) (a : α) : PerSrc α :=
  match x with
  | .t0Cmp  => { p with t0Cmp := a }
  | .t0Ovf  => { p with t0Ovf := a }
  | .t1CmpA => { p with t1CmpA := a }
  | .t1CmpB => { p with t1CmpB := a }
  | .t1Capt => { p with t1Capt := a }
  | .t1Ovf  => { p with t1Ovf := a }
  | .t2Cmp  => { p with t2Cmp := a }
  | .t2Ovf  => { p with t2Ovf := a }
  | .int0   => { p with int0 := a }
  | .int1   => { p with int1 := a }
  | .int2   => { p with int2 := a }

/-- The value of line `i`. -/
def PerLine.get {α : Type} (p : PerLine α) : Line → α
  | .int0 => p.int0
  | .int1 => p.int1
  | .int2 => p.int2

/-- `p` with the value of line `i` replaced by `a`. -/
def PerLine.set {α : Type} (p : PerLine α) (i : Line) (a : α) : PerLine α :=
  match i with
  | .int0 => { p with int0 := a }
  | .int1 => { p with int1 := a }
  | .int2 => { p with int2 := a }

/-- The event sources in dispatch order, lowest id first (R322, R325). -/
def srcsInOrder : List Src :=
  [.t0Cmp, .t0Ovf, .t1CmpA, .t1CmpB, .t1Capt, .t1Ovf, .t2Cmp, .t2Ovf, .int0, .int1, .int2]

/-- The id of a source (R322). -/
def srcId : Src → Nat
  | .t0Cmp  => 0
  | .t0Ovf  => 1
  | .t1CmpA => 2
  | .t1CmpB => 3
  | .t1Capt => 4
  | .t1Ovf  => 5
  | .t2Cmp  => 6
  | .t2Ovf  => 7
  | .int0   => 8
  | .int1   => 9
  | .int2   => 10

/-- The event source of line `i`: 8 + i (10_state.md R40). -/
def lineSrc : Line → Src
  | .int0 => .int0
  | .int1 => .int1
  | .int2 => .int2

/-- `ECHO_SRC`, the event source of the echo line (00_scope.md R8). -/
def echoSrc (P : Params) : Src := lineSrc P.echoLine

/-- `FLAG[x] <- b` (10_state.md R38). -/
def State.setFlag (s : State) (x : Src) (b : Bool) : State := { s with flag := s.flag.set x b }

/-- `EN[x] <- b` (R38). -/
def State.setEn (s : State) (x : Src) (b : Bool) : State := { s with en := s.en.set x b }

/-- `SLOT[x] <- a` (R38). -/
def State.setSlot (s : State) (x : Src) (a : Action) : State := { s with slot := s.slot.set x a }

/-- `IRQP[x] <- b` (R38). -/
def State.setIrqp (s : State) (x : Src) (b : Bool) : State := { s with irqp := s.irqp.set x b }

/-- `GIE <- b` (R38). -/
def State.setGie (s : State) (b : Bool) : State := { s with gie := b }

/-- `X[i] <- l` (10_state.md R40). -/
def State.setLine (s : State) (i : Line) (l : ExtLine) : State := { s with line := s.line.set i l }

/-- `PIN[i]` outside a cycle: the level ENV supplies for the next cycle (42_exti.md R204). -/
def State.pin (s : State) (i : Line) : Bool := (nextPins s.env).get i

/-- The ERRC of a rejection (60_exceptions.md R321). -/
def rejectCode : Reject → BitVec 4
  | .eOpcode => 1
  | .eRsvd   => 2
  | .eTimer  => 3
  | .eChan   => 4
  | .eMode   => 5
  | .eCs     => 6
  | .eValue  => 7
  | .eSrc    => 8
  | .eAct    => 9
  | .eAddr   => 10
  | .eLine   => 11

/-- `Respond(d)`: an accepted command's response, ERR = 0, ERRC = 0 and DATA = d (00_scope.md R10, 45_access.md R303). -/
def State.respond (s : State) (d : Word) : State := { s with resp := ⟨false, 0, d⟩ }

/-- A rejected command's response: ERR = 1, ERRC = the code, DATA = 0, and no other change (R303, R321). -/
def State.reject (s : State) (e : Reject) : State := { s with resp := ⟨true, rejectCode e, 0⟩ }

/-- An accepted command ends in the state `s` with its response. -/
def accepted (d : Word) (s : State) : Result := .next (s.respond d)

/-- `raise Reject(e)`: the block's analogue of a synchronous exception (R320, R321), the one place a command is refused. -/
def rejected (e : Reject) (s : State) : Result := .next (s.reject e)

/-- Go on with the operand a field stands for, or reject the command with `e` where the field is not legal. -/
def withOperand {α : Type} (o : Option α) (e : Reject) (s : State) (k : α → Result) : Result :=
  match o with
  | none   => rejected e s
  | some a => k a

/-- Go on where a check holds, or reject the command with `e`. -/
def require (ok : Bool) (e : Reject) (s : State) (k : Result) : Result :=
  if ok then k else rejected e s

/-- Eight bits as a byte, bit 7 first. -/
def byteOfBits (b7 b6 b5 b4 b3 b2 b1 b0 : Bool) : Byte :=
  BitVec.ofBool b7 ++ BitVec.ofBool b6 ++ BitVec.ofBool b5 ++ BitVec.ofBool b4 ++ BitVec.ofBool b3 ++ BitVec.ofBool b2 ++
    BitVec.ofBool b1 ++ BitVec.ofBool b0

end Sys2Proof.Machine
end

