-- ==== Sys2Proof/Machine/Flags.lean ====
section
/-! DEFINITION. Every flag computation of the spec: when a compare, an overflow, a capture or a line event sets its flag
(40_timer.md R151 to R154, 42_exti.md R205), what the output-compare latches become (R156), when a pending flag dispatches
(41_events.md R192) and the IRQ output (10_state.md R39). -/

namespace Sys2Proof.Machine

/-- The divisor of a running clock select (10_state.md R37). -/
def divisor : ClockDiv → Nat
  | .div1    => 1
  | .div8    => 8
  | .div64   => 64
  | .div256  => 256
  | .div1024 => 1024

/-- `MAX = 2^W - 1` (10_state.md R34). -/
def counterMax (w : Nat) : BitVec w := BitVec.allOnes w

/-- A tick with counter value `c` is a wrap (R151). -/
def wraps {w : Nat} (c top : BitVec w) : Bool := c == top || c == counterMax w

/-- A compare event: the tick leaves the value of the compare register (R152). -/
def compareEvent {w : Nat} (c ocr : BitVec w) : Bool := c == ocr

/-- The overflow event of a tick (R153): a wrap at MAX, or any wrap in a FAST_PWM mode. -/
def overflowEvent {w : Nat} (c top : BitVec w) (fastPwm : Bool) : Bool := wraps c top && (c == counterMax w || fastPwm)

/-- The capture event of a tick (R154): the wrap at TOP in an ICR mode. -/
def captureEvent {w : Nat} (c top : BitVec w) (icrMode : Bool) : Bool := wraps c top && (icrMode && c == top)

/-- An output-compare latch on its channel's compare event: OC_COMPARE (R156). -/
def ocOnCompare (com : Com) (oc : Bool) : Bool :=
  match com with
  | .disconnect   => oc
  | .toggle       => !oc
  | .nonInverting => false
  | .inverting    => true

/-- An output-compare latch on a wrap in a FAST_PWM mode: OC_BOTTOM (R156). -/
def ocOnBottom (com : Com) (oc : Bool) : Bool :=
  match com with
  | .disconnect   => oc
  | .toggle       => oc
  | .nonInverting => true
  | .inverting    => false

/-- An output-compare latch over one tick: OC_COMPARE runs before OC_BOTTOM (R156). -/
def ocAfterTick (com : Com) (compare bottom : Bool) (oc : Bool) : Bool :=
  let oc' := if compare then ocOnCompare com oc else oc
  if bottom then ocOnBottom com oc' else oc'

/-- A line's event: the sample `level`, against the last sample, under the line's sensitivity (42_exti.md R205). -/
def lineEvent (l : ExtLine) (level : Bool) : Bool :=
  match l.sense with
  | .lowLevel => !level
  | .anyEdge  => level != l.prev
  | .falling  => l.prev && !level
  | .rising   => !l.prev && level

/-- Source `x` is pending and enabled (60_exceptions.md R323). -/
def State.ready (s : State) (x : Src) : Bool := s.flag.get x && s.en.get x

/-- The output IRQ: the OR of every IRQP bit (10_state.md R39). -/
def State.irq (s : State) : Bool := srcsInOrder.any (fun x => s.irqp.get x)

end Sys2Proof.Machine
end

