-- ==== Sys2Proof/Machine/Operands.lean ====
section
/-! DEFINITION. Every operand field of a command (30_encoding.md R102 to R116): what each code selects, none for a code outside
the legal set, and the code of each stored field, as the register map shows it (20_memory.md R84). -/

namespace Sys2Proof.Machine

/-- A timer, as TMR selects it. -/
inductive TimerId
  | t0 | t1 | t2
deriving DecidableEq, Repr

/-- A timer together with a mode it has (10_state.md R35). -/
inductive TimerMode
  | t0 (m : Mode8)
  | t1 (m : Mode16)
  | t2 (m : Mode8)
deriving DecidableEq, Repr

/-- The compare channels that exist (00_scope.md R8). -/
inductive Channel
  | oc0A | oc1A | oc1B | oc2A
deriving DecidableEq, Repr

/-- `TMR` (R103); code 3 is reserved. -/
def timerOf (tmr : BitVec 2) : Option TimerId :=
  match tmr.toNat with
  | 0 => some .t0
  | 1 => some .t1
  | 2 => some .t2
  | _ => none

/-- The timer has an 8-bit counter (R8). -/
def timerIs8 : TimerId → Bool
  | .t0 => true
  | .t1 => false
  | .t2 => true

/-- `CH` (R104): channel B exists only on T1. -/
def channelOf (n : TimerId) (ch : BitVec 1) : Option Channel :=
  match n, ch.toNat with
  | .t0, 0 => some .oc0A
  | .t0, _ => none
  | .t1, 0 => some .oc1A
  | .t1, _ => some .oc1B
  | .t2, 0 => some .oc2A
  | .t2, _ => none

/-- `MODE` on T0 and T2 (R105, R35); code 3 is reserved. -/
def mode8Of (mode : BitVec 2) : Option Mode8 :=
  match mode.toNat with
  | 0 => some .normal
  | 1 => some .ctc
  | 2 => some .fastPwm
  | _ => none

/-- `MODE` on T1 (R105, R35): every code is legal. -/
def mode16Of (mode : BitVec 2) : Mode16 :=
  match mode.toNat with
  | 0 => .normal
  | 1 => .ctcOcra
  | 2 => .fastPwmIcr
  | _ => .ctcIcr

/-- `MODE` for the timer it is given to (R105). -/
def timerModeOf (n : TimerId) (mode : BitVec 2) : Option TimerMode :=
  match n with
  | .t0 => (mode8Of mode).map .t0
  | .t1 => some (.t1 (mode16Of mode))
  | .t2 => (mode8Of mode).map .t2

/-- `CS` (R106); codes 6 and 7 are reserved. -/
def clockSelOf (cs : BitVec 3) : Option ClockSel :=
  match cs.toNat with
  | 0 => some .stop
  | 1 => some (.run .div1)
  | 2 => some (.run .div8)
  | 3 => some (.run .div64)
  | 4 => some (.run .div256)
  | 5 => some (.run .div1024)
  | _ => none

/-- `COM` (R107): every code is legal. -/
def comOf (com : BitVec 2) : Com :=
  match com.toNat with
  | 0 => .disconnect
  | 1 => .toggle
  | 2 => .nonInverting
  | _ => .inverting

/-- `VAL` fits the timer's registers (R108). -/
def valFits (n : TimerId) (val : BitVec 16) : Bool := !timerIs8 n || val.toNat ≤ 255

/-- `P`, `P1` or `P2` is a percentage (R108, R115). -/
def isPercentage (p : BitVec 7) : Bool := p.toNat ≤ 100

/-- `SRC` (R109); codes 11 to 31 are reserved. -/
def srcOf (src : BitVec 5) : Option Src :=
  match src.toNat with
  | 0  => some .t0Cmp
  | 1  => some .t0Ovf
  | 2  => some .t1CmpA
  | 3  => some .t1CmpB
  | 4  => some .t1Capt
  | 5  => some .t1Ovf
  | 6  => some .t2Cmp
  | 7  => some .t2Ovf
  | 8  => some .int0
  | 9  => some .int1
  | 10 => some .int2
  | _  => none

/-- An H-bridge code (R113, R114); codes 5 to 7 are reserved. -/
def hbCodeOf (m : BitVec 3) : Option HbCode :=
  match m.toNat with
  | 0 => some .keep
  | 1 => some .cw
  | 2 => some .ccw
  | 3 => some .fastStop
  | 4 => some .freeStop
  | _ => none

/-- `ACT` (R110, R112): the action of a code, with m1 = code[2:0] and m2 = code[5:3] in 0x40..0x7F. -/
def actionOf (act : BitVec 8) : Option Action :=
  if act = 0x00 then some .null
  else if act = 0x01 then some .hostIrq
  else if act = 0x02 then some .echoEdge
  else if act = 0x03 then some .echoOvf
  else if act.extractLsb' 6 2 = 0b01 then
    match hbCodeOf (act.extractLsb' 0 3), hbCodeOf (act.extractLsb' 3 3) with
    | some m1, some m2 => some (.hb m1 m2)
    | _, _             => none
  else none

/-- `LINE` (R111); code 3 is reserved. -/
def lineOf (line : BitVec 2) : Option Line :=
  match line.toNat with
  | 0 => some .int0
  | 1 => some .int1
  | 2 => some .int2
  | _ => none

/-- `SENSE` (R111, 10_state.md R40): every code is legal. -/
def senseOf (sense : BitVec 2) : Sense :=
  match sense.toNat with
  | 0 => .lowLevel
  | 1 => .anyEdge
  | 2 => .falling
  | _ => .rising

/-- `SMODE` (R115). -/
def speedModeOf (smode : BitVec 1) : SpeedMode :=
  if smode = 0 then .same else .different

/-- `DIR` (R115). -/
def directionOf (dir : BitVec 2) : Direction :=
  match dir.toNat with
  | 0 => .forward
  | 1 => .backward
  | 2 => .right
  | _ => .left

/-- The code of a mode of T0 or T2 (R35). -/
def mode8Code : Mode8 → BitVec 2
  | .normal  => 0
  | .ctc     => 1
  | .fastPwm => 2

/-- The code of a mode of T1 (R35). -/
def mode16Code : Mode16 → BitVec 2
  | .normal     => 0
  | .ctcOcra    => 1
  | .fastPwmIcr => 2
  | .ctcIcr     => 3

/-- The code of a clock select (R106). -/
def clockSelCode : ClockSel → BitVec 3
  | .stop        => 0
  | .run .div1   => 1
  | .run .div8   => 2
  | .run .div64  => 3
  | .run .div256 => 4
  | .run .div1024 => 5

/-- The code of an output-compare behaviour (R107). -/
def comCode : Com → BitVec 2
  | .disconnect   => 0
  | .toggle       => 1
  | .nonInverting => 2
  | .inverting    => 3

/-- The code of an H-bridge pattern (R113). -/
def hbCodeCode : HbCode → BitVec 3
  | .keep     => 0
  | .cw       => 1
  | .ccw      => 2
  | .fastStop => 3
  | .freeStop => 4

/-- The code of an action, the value SLOT[s] shows (R112): HB(m1, m2) = 0x40 | m2<<3 | m1. -/
def actionCode : Action → BitVec 8
  | .null     => 0x00
  | .hostIrq  => 0x01
  | .echoEdge => 0x02
  | .echoOvf  => 0x03
  | .hb m1 m2 => 0b01#2 ++ hbCodeCode m2 ++ hbCodeCode m1

/-- The code of a sensitivity (10_state.md R40). -/
def senseCode : Sense → BitVec 2
  | .lowLevel => 0
  | .anyEdge  => 1
  | .falling  => 2
  | .rising   => 3

/-- The bit of an expected edge (10_state.md R41). -/
def edgeBit : Edge → Bool
  | .rising  => false
  | .falling => true

/-- The bit of a speed mode (10_state.md R42). -/
def speedModeBit : SpeedMode → Bool
  | .same      => false
  | .different => true

/-- The code of a direction (R42). -/
def directionCode : Direction → BitVec 2
  | .forward  => 0
  | .backward => 1
  | .right    => 2
  | .left     => 3

end Sys2Proof.Machine
end

