-- ==== Sys2Proof/Machine/RegMap.lean ====
section
/-! DEFINITION. The register space (20_memory.md R80 to R88): the byte each address shows, none for a reserved address (R85), and
the TEMP latch a T1 low-byte read loads (R86). Bits a field does not use read 0. -/

namespace Sys2Proof.Machine

/-- Bit i is the value of source i, for i = 0..7 (R84: EV_FLAG_L, EV_EN_L, IRQP_L). -/
def lowSources (p : PerSrc Bool) : Byte :=
  byteOfBits p.t2Ovf p.t2Cmp p.t1Ovf p.t1Capt p.t1CmpB p.t1CmpA p.t0Ovf p.t0Cmp

/-- Bit i is the value of source 8 + i, for i = 0..2 (R84: EV_FLAG_H, EV_EN_H, IRQP_H). -/
def highSources (p : PerSrc Bool) : Byte :=
  byteOfBits false false false false false p.int2 p.int1 p.int0

/-- `RegRead(a)`, the byte at a register address (R84; 45_access.md R302); none where the address is reserved (R85). -/
def regRead (s : State) (addr : Byte) : Option Byte :=
  match addr.toNat with
  | 0x00 => some (0#1 ++ comCode s.t0.coma ++ clockSelCode s.t0.cs ++ mode8Code s.t0.mode)
  | 0x01 => some s.t0.cnt
  | 0x02 => some s.t0.ocra
  | 0x04 => some (0#1 ++ comCode s.t1.coma ++ clockSelCode s.t1.cs ++ mode16Code s.t1.mode)
  | 0x05 => some (0#6 ++ comCode s.t1.comb)
  | 0x06 => some (s.t1.cnt.extractLsb' 0 8)
  | 0x07 => some s.temp
  | 0x08 => some (s.t1.ocra.extractLsb' 0 8)
  | 0x09 => some s.temp
  | 0x0A => some (s.t1.ocrb.extractLsb' 0 8)
  | 0x0B => some s.temp
  | 0x0C => some (s.t1.icr.extractLsb' 0 8)
  | 0x0D => some s.temp
  | 0x10 => some (0#1 ++ comCode s.t2.coma ++ clockSelCode s.t2.cs ++ mode8Code s.t2.mode)
  | 0x11 => some s.t2.cnt
  | 0x12 => some s.t2.ocra
  | 0x14 => some (byteOfBits false false false false s.t2.oca s.t1.ocb s.t1.oca s.t0.oca)
  | 0x18 => some (lowSources s.flag)
  | 0x19 => some (highSources s.flag)
  | 0x1A => some (lowSources s.en)
  | 0x1B => some (highSources s.en)
  | 0x1C => some (lowSources s.irqp)
  | 0x1D => some (highSources s.irqp)
  | 0x1E => some (byteOfBits false false false false false false s.irq s.gie)
  | 0x20 => some (actionCode s.slot.t0Cmp)
  | 0x21 => some (actionCode s.slot.t0Ovf)
  | 0x22 => some (actionCode s.slot.t1CmpA)
  | 0x23 => some (actionCode s.slot.t1CmpB)
  | 0x24 => some (actionCode s.slot.t1Capt)
  | 0x25 => some (actionCode s.slot.t1Ovf)
  | 0x26 => some (actionCode s.slot.t2Cmp)
  | 0x27 => some (actionCode s.slot.t2Ovf)
  | 0x28 => some (actionCode s.slot.int0)
  | 0x29 => some (actionCode s.slot.int1)
  | 0x2A => some (actionCode s.slot.int2)
  | 0x30 => some (0#2 ++ senseCode s.line.int2.sense ++ senseCode s.line.int1.sense ++ senseCode s.line.int0.sense)
  | 0x31 => some (byteOfBits false false false false false s.line.int2.prev s.line.int1.prev s.line.int0.prev)
  | 0x34 => some (byteOfBits false s.hb2.y s.hb2.x s.hb2.en false s.hb1.y s.hb1.x s.hb1.en)
  | 0x38 => some (0#4 ++ BitVec.ofBool s.mc.active ++ directionCode s.mc.dir ++ BitVec.ofBool (speedModeBit s.mc.smode))
  | 0x39 => some (0#1 ++ s.mc.p1)
  | 0x3A => some (0#1 ++ s.mc.p2)
  | 0x3C => some (byteOfBits false false false s.us.trig s.us.resTo (s.us.pcnt != 0) (edgeBit s.us.exp) s.us.on)
  | 0x3D => some (s.us.ovf.extractLsb' 0 8)
  | 0x3E => some (s.us.ovf.extractLsb' 8 8)
  | 0x40 => some (s.us.resTicks.extractLsb' 0 8)
  | 0x41 => some (s.us.resTicks.extractLsb' 8 8)
  | 0x42 => some (s.us.resTicks.extractLsb' 16 8)
  | _    => none

/-- TEMP after an RDREG of `addr`: a T1 low-byte read latches bits [15:8] of the same register, every other read keeps it (R86). -/
def tempAfterRead (s : State) (addr : Byte) : Byte :=
  match addr.toNat with
  | 0x06 => s.t1.cnt.extractLsb' 8 8
  | 0x08 => s.t1.ocra.extractLsb' 8 8
  | 0x0A => s.t1.ocrb.extractLsb' 8 8
  | 0x0C => s.t1.icr.extractLsb' 8 8
  | _    => s.temp

end Sys2Proof.Machine
end

