-- ==== Sys2Proof/Machine/Access.lean ====
section
/-! DEFINITION. The host access commands NOP and RDREG (45_access.md R301, R302). -/

namespace Sys2Proof.Machine

/-- NOP (R301): only the response is written. -/
def execNop (s : State) : Result := accepted 0 s

/-- RDREG (R302): the byte at the address, zero-extended, and the TEMP latch of a T1 low-byte read (20_memory.md R86). -/
def execRdreg (addr : BitVec 8) (s : State) : Result :=
  withOperand (regRead s addr) .eAddr s fun v =>
  accepted (v.setWidth 32) { s with temp := tempAfterRead s addr }

end Sys2Proof.Machine
end

