-- ==== Sys2Proof/Machine/Events.lean ====
section
/-! DEFINITION. The event router's commands (41_events.md R181 to R187) and the HOST_IRQ action (R191). -/

namespace Sys2Proof.Machine

/-- EVSETCB (R181): E_SRC is checked before E_ACT. -/
def execEvsetcb (src : BitVec 5) (act : BitVec 8) (s : State) : Result :=
  withOperand (srcOf src) .eSrc s fun x =>
  withOperand (actionOf act) .eAct s fun a =>
  accepted 0 (s.setSlot x a)

/-- EVEN (R182). -/
def execEven (src : BitVec 5) (s : State) : Result :=
  withOperand (srcOf src) .eSrc s fun x =>
  accepted 0 (s.setEn x true)

/-- EVDIS (R183). -/
def execEvdis (src : BitVec 5) (s : State) : Result :=
  withOperand (srcOf src) .eSrc s fun x =>
  accepted 0 (s.setEn x false)

/-- EVCLRF (R184). -/
def execEvclrf (src : BitVec 5) (s : State) : Result :=
  withOperand (srcOf src) .eSrc s fun x =>
  accepted 0 (s.setFlag x false)

/-- IRQACK (R185). -/
def execIrqack (src : BitVec 5) (s : State) : Result :=
  withOperand (srcOf src) .eSrc s fun x =>
  accepted 0 (s.setIrqp x false)

/-- GIESET (R186). -/
def execGieset (s : State) : Result := accepted 0 (s.setGie true)

/-- GIECLR (R187). -/
def execGieclr (s : State) : Result := accepted 0 (s.setGie false)

/-- The HOST_IRQ action of source `x` (R191). -/
def hostIrq (x : Src) (s : State) : State := s.setIrqp x true

end Sys2Proof.Machine
end

