-- ==== Sys2Proof/Machine/Timer.lean ====
section
/-! DEFINITION. The timers (40_timer.md): the counters' clocked operation (R150 to R160), the procedure TINIT_SEQ (R131), the
duty function (R138) and the seven timer commands (R132 to R139). -/

namespace Sys2Proof.Machine

/-- `TOP(n)` of T0 and T2 (10_state.md R36). -/
def top8 (t : Timer8) : BitVec 8 :=
  match t.mode with
  | .normal  => counterMax 8
  | .ctc     => t.ocra
  | .fastPwm => 255

/-- `TOP(1)` (R36). -/
def top16 (t : Timer16) : BitVec 16 :=
  match t.mode with
  | .normal     => counterMax 16
  | .ctcOcra    => t.ocra
  | .fastPwmIcr => t.icr
  | .ctcIcr     => t.icr

/-- FAST_PWM modes of T0 and T2 (R35). -/
def isFastPwm8 : Mode8 → Bool
  | .normal  => false
  | .ctc     => false
  | .fastPwm => true

/-- FAST_PWM modes of T1 (R35). -/
def isFastPwm16 : Mode16 → Bool
  | .normal     => false
  | .ctcOcra    => false
  | .fastPwmIcr => true
  | .ctcIcr     => false

/-- ICR modes of T1 (R35). -/
def isIcrMode : Mode16 → Bool
  | .normal     => false
  | .ctcOcra    => false
  | .fastPwmIcr => true
  | .ctcIcr     => true

/-- The events one cycle of an 8-bit timer gives. -/
structure Events8 where
  cmp : Bool
  ovf : Bool
deriving DecidableEq, Repr

/-- The events one cycle of T1 gives. -/
structure Events16 where
  cmpA : Bool
  cmpB : Bool
  capt : Bool
  ovf  : Bool
deriving DecidableEq, Repr

/-- `TICK(n)` on T0 or T2 (R151, R156): the timer after a tick. -/
def tick8 (t : Timer8) : Timer8 :=
  { t with
    cnt := if wraps t.cnt (top8 t) then 0 else t.cnt + 1
    oca := ocAfterTick t.coma (compareEvent t.cnt t.ocra) (wraps t.cnt (top8 t) && isFastPwm8 t.mode) t.oca }

/-- The events of a tick of T0 or T2 (R152, R153). -/
def tickEvents8 (t : Timer8) : Events8 :=
  { cmp := compareEvent t.cnt t.ocra, ovf := overflowEvent t.cnt (top8 t) (isFastPwm8 t.mode) }

/-- `TICK(1)` (R151, R156): T1 after a tick. -/
def tick16 (t : Timer16) : Timer16 :=
  { t with
    cnt := if wraps t.cnt (top16 t) then 0 else t.cnt + 1
    oca := ocAfterTick t.coma (compareEvent t.cnt t.ocra) (wraps t.cnt (top16 t) && isFastPwm16 t.mode) t.oca
    ocb := ocAfterTick t.comb (compareEvent t.cnt t.ocrb) (wraps t.cnt (top16 t) && isFastPwm16 t.mode) t.ocb }

/-- The events of a tick of T1 (R152, R153, R154). -/
def tickEvents16 (t : Timer16) : Events16 :=
  { cmpA := compareEvent t.cnt t.ocra
    cmpB := compareEvent t.cnt t.ocrb
    capt := captureEvent t.cnt (top16 t) (isIcrMode t.mode)
    ovf  := overflowEvent t.cnt (top16 t) (isFastPwm16 t.mode) }

/-- The prescaler gives a tick in this cycle: the timer runs and PSC has reached N - 1 (R150). -/
def prescalerTicks (cs : ClockSel) (psc : BitVec 10) : Bool :=
  match cs with
  | .stop  => false
  | .run d => divisor d - 1 ≤ psc.toNat

/-- PSC after a cycle (R150). -/
def prescalerNext (cs : ClockSel) (psc : BitVec 10) : BitVec 10 :=
  match cs with
  | .stop  => psc
  | .run d => if divisor d - 1 ≤ psc.toNat then 0 else psc + 1

/-- T0 or T2 over the TICK phase of a cycle (R150). -/
def clock8 (t : Timer8) : Timer8 :=
  let t' := { t with psc := prescalerNext t.cs t.psc }
  if prescalerTicks t.cs t.psc then tick8 t' else t'

/-- The events of T0 or T2 in the TICK phase of a cycle: none without a tick (R150, R158). -/
def clockEvents8 (t : Timer8) : Events8 :=
  if prescalerTicks t.cs t.psc then tickEvents8 t else ⟨false, false⟩

/-- T1 over the TICK phase of a cycle (R150). -/
def clock16 (t : Timer16) : Timer16 :=
  let t' := { t with psc := prescalerNext t.cs t.psc }
  if prescalerTicks t.cs t.psc then tick16 t' else t'

/-- The events of T1 in the TICK phase of a cycle. -/
def clockEvents16 (t : Timer16) : Events16 :=
  if prescalerTicks t.cs t.psc then tickEvents16 t else ⟨false, false, false, false⟩

/-- The TICK phase (10_state.md R33): the three timers, which are independent, and the flags their events set (R152 to R155). -/
def tickPhase (s : State) : State :=
  { s with
    t0   := clock8 s.t0
    t1   := clock16 s.t1
    t2   := clock8 s.t2
    flag := { s.flag with
      t0Cmp  := s.flag.t0Cmp || (clockEvents8 s.t0).cmp
      t0Ovf  := s.flag.t0Ovf || (clockEvents8 s.t0).ovf
      t1CmpA := s.flag.t1CmpA || (clockEvents16 s.t1).cmpA
      t1CmpB := s.flag.t1CmpB || (clockEvents16 s.t1).cmpB
      t1Capt := s.flag.t1Capt || (clockEvents16 s.t1).capt
      t1Ovf  := s.flag.t1Ovf || (clockEvents16 s.t1).ovf
      t2Cmp  := s.flag.t2Cmp || (clockEvents8 s.t2).cmp
      t2Ovf  := s.flag.t2Ovf || (clockEvents8 s.t2).ovf } }

/-- `TINIT_SEQ(n, mode, cs)` (R131): MODE, CS, CNT and PSC, and nothing else. -/
def tinitSeq (m : TimerMode) (cs : ClockSel) (s : State) : State :=
  match m with
  | .t0 m => { s with t0 := { s.t0 with mode := m, cs := cs, cnt := 0, psc := 0 } }
  | .t1 m => { s with t1 := { s.t1 with mode := m, cs := cs, cnt := 0, psc := 0 } }
  | .t2 m => { s with t2 := { s.t2 with mode := m, cs := cs, cnt := 0, psc := 0 } }

/-- `T[n].CS <- 0` (R133). -/
def stopTimer (n : TimerId) (s : State) : State :=
  match n with
  | .t0 => { s with t0 := { s.t0 with cs := .stop } }
  | .t1 => { s with t1 := { s.t1 with cs := .stop } }
  | .t2 => { s with t2 := { s.t2 with cs := .stop } }

/-- `T[n].CNT <- v`, the low W bits of `v` (R134). -/
def setCounter (n : TimerId) (v : BitVec 16) (s : State) : State :=
  match n with
  | .t0 => { s with t0 := { s.t0 with cnt := v.setWidth 8 } }
  | .t1 => { s with t1 := { s.t1 with cnt := v } }
  | .t2 => { s with t2 := { s.t2 with cnt := v.setWidth 8 } }

/-- The compare register of a channel `<- v`, the low W bits of `v` (R135). -/
def setCompare (c : Channel) (v : BitVec 16) (s : State) : State :=
  match c with
  | .oc0A => { s with t0 := { s.t0 with ocra := v.setWidth 8 } }
  | .oc1A => { s with t1 := { s.t1 with ocra := v } }
  | .oc1B => { s with t1 := { s.t1 with ocrb := v } }
  | .oc2A => { s with t2 := { s.t2 with ocra := v.setWidth 8 } }

/-- The COM field of a channel `<- com` (R139). -/
def setCom (c : Channel) (com : Com) (s : State) : State :=
  match c with
  | .oc0A => { s with t0 := { s.t0 with coma := com } }
  | .oc1A => { s with t1 := { s.t1 with coma := com } }
  | .oc1B => { s with t1 := { s.t1 with comb := com } }
  | .oc2A => { s with t2 := { s.t2 with coma := com } }

/-- `DUTY(p) = (floor((256 * p + 50) / 100) - 1) mod 256` (R138), on unbounded integers. -/
def duty (p : BitVec 7) : Byte :=
  BitVec.ofInt 8 (((256 * (p.toNat : Int) + 50) / 100 - 1) % 256)

/-- TINIT (R132). -/
def execTinit (tmr mode : BitVec 2) (cs : BitVec 3) (s : State) : Result :=
  withOperand (timerOf tmr) .eTimer s fun n =>
  withOperand (timerModeOf n mode) .eMode s fun m =>
  withOperand (clockSelOf cs) .eCs s fun c =>
  accepted 0 (tinitSeq m c s)

/-- TSTOP (R133). -/
def execTstop (tmr : BitVec 2) (s : State) : Result :=
  withOperand (timerOf tmr) .eTimer s fun n =>
  accepted 0 (stopTimer n s)

/-- TSETCNT (R134). -/
def execTsetcnt (tmr : BitVec 2) (val : BitVec 16) (s : State) : Result :=
  withOperand (timerOf tmr) .eTimer s fun n =>
  require (valFits n val) .eValue s <|
  accepted 0 (setCounter n val s)

/-- TSETOCR (R135). -/
def execTsetocr (tmr : BitVec 2) (ch : BitVec 1) (val : BitVec 16) (s : State) : Result :=
  withOperand (timerOf tmr) .eTimer s fun n =>
  withOperand (channelOf n ch) .eChan s fun c =>
  require (valFits n val) .eValue s <|
  accepted 0 (setCompare c val s)

/-- TSETICR (R136): T1 only. -/
def execTseticr (tmr : BitVec 2) (val : BitVec 16) (s : State) : Result :=
  require (tmr == 1) .eTimer s <|
  accepted 0 { s with t1 := { s.t1 with icr := val } }

/-- TSETDUTY (R137): the raw duty mapping, zero-extended to the register's width. -/
def execTsetduty (tmr : BitVec 2) (ch : BitVec 1) (p : BitVec 7) (s : State) : Result :=
  withOperand (timerOf tmr) .eTimer s fun n =>
  withOperand (channelOf n ch) .eChan s fun c =>
  require (isPercentage p) .eValue s <|
  accepted 0 (setCompare c ((duty p).setWidth 16) s)

/-- TOCPIN (R139). -/
def execTocpin (tmr : BitVec 2) (ch : BitVec 1) (com : BitVec 2) (s : State) : Result :=
  withOperand (timerOf tmr) .eTimer s fun n =>
  withOperand (channelOf n ch) .eChan s fun c =>
  accepted 0 (setCom c (comOf com) s)

end Sys2Proof.Machine
end

