-- ==== Sys2Proof/Machine/Motor.lean ====
section
/-! DEFINITION. The motor PWM controller and the H-bridge channels (44_motor_pwm.md): APPLY (R260), the HB action (R261), the
direction map (R263), PWM_START and MSTOP_SEQ (R265, R266), and HBSET, MINIT, MSPEED, MDIR, MSTOP (R262, R267 to R270). -/

namespace Sys2Proof.Machine

/-- What pattern code `m` writes to a channel (R260). -/
def applyCode (m : HbCode) (h : HBridge) : HBridge :=
  match m with
  | .keep     => h
  | .cw       => ⟨true, false, true⟩
  | .ccw      => ⟨true, true, false⟩
  | .fastStop => ⟨true, false, false⟩
  | .freeStop => { h with en := false }

/-- `APPLY(1, m1); APPLY(2, m2)`: the HB action and HBSET (R261, R262). -/
def hbAction (m1 m2 : HbCode) (s : State) : State :=
  { s with hb1 := applyCode m1 s.hb1, hb2 := applyCode m2 s.hb2 }

/-- `DRV1`, the drive pattern of motor 1 (R263). -/
def drive1 : Direction → HbCode
  | .forward  => .cw
  | .backward => .ccw
  | .right    => .ccw
  | .left     => .cw

/-- `DRV2`, the drive pattern of motor 2 (R263). -/
def drive2 : Direction → HbCode
  | .forward  => .ccw
  | .backward => .cw
  | .right    => .ccw
  | .left     => .cw

/-- T0 as a PWM timer (R265): FAST_PWM with the duty's compare value, the two actions bound and enabled with clear flags. -/
def startPwmT0 (P : Params) (p : BitVec 7) (onCompare onOverflow : Action) (s : State) : State :=
  let s := tinitSeq (.t0 .fastPwm) (.run P.pwmCs) s
  let s := { s with t0 := { s.t0 with ocra := duty p } }
  let s := (s.setSlot .t0Cmp onCompare).setSlot .t0Ovf onOverflow
  let s := (s.setFlag .t0Cmp false).setFlag .t0Ovf false
  (s.setEn .t0Cmp true).setEn .t0Ovf true

/-- T1 as a PWM timer (R265): FAST_PWM_ICR with TOP = ICR = 255. -/
def startPwmT1 (P : Params) (p : BitVec 7) (onCompare onCapture : Action) (s : State) : State :=
  let s := tinitSeq (.t1 .fastPwmIcr) (.run P.pwmCs) s
  let s := { s with t1 := { s.t1 with icr := 255, ocra := (duty p).setWidth 16 } }
  let s := (s.setSlot .t1CmpA onCompare).setSlot .t1Capt onCapture
  let s := (s.setFlag .t1CmpA false).setFlag .t1Capt false
  (s.setEn .t1CmpA true).setEn .t1Capt true

/-- `PWM_START` in SAME_SPEED (R265): T0 drives both motors at P1; P2 is unused. -/
def pwmStartSame (P : Params) (s : State) : State :=
  let d1 := drive1 s.mc.dir
  let d2 := drive2 s.mc.dir
  if 0 < s.mc.p1.toNat then
    hbAction d1 d2 (startPwmT0 P s.mc.p1 (.hb .fastStop .fastStop) (.hb d1 d2) s)
  else s

/-- Motor 1's part of `PWM_START` in DIFFERENT_SPEEDS (R265): T1, at P1. -/
def pwmStartMotor1 (P : Params) (s : State) : State :=
  let d1 := drive1 s.mc.dir
  if 0 < s.mc.p1.toNat then
    hbAction d1 .keep (startPwmT1 P s.mc.p1 (.hb .fastStop .keep) (.hb d1 .keep) s)
  else s

/-- Motor 2's part of `PWM_START` in DIFFERENT_SPEEDS (R265): T0, at P2. -/
def pwmStartMotor2 (P : Params) (s : State) : State :=
  let d2 := drive2 s.mc.dir
  if 0 < s.mc.p2.toNat then
    hbAction .keep d2 (startPwmT0 P s.mc.p2 (.hb .keep .fastStop) (.hb .keep d2) s)
  else s

/-- `PWM_START` (R265). -/
def pwmStart (P : Params) (s : State) : State :=
  match s.mc.smode with
  | .same      => pwmStartSame P s
  | .different => pwmStartMotor2 P (pwmStartMotor1 P s)

/-- `MSTOP_SEQ` (R266): stop the current mode's motor timers, disable their events, fast-stop both channels. -/
def mstopSeq (s : State) : State :=
  let s := ((stopTimer .t0 s).setEn .t0Cmp false).setEn .t0Ovf false
  let s :=
    match s.mc.smode with
    | .same      => s
    | .different => ((stopTimer .t1 s).setEn .t1CmpA false).setEn .t1Capt false
  let s := hbAction .fastStop .fastStop s
  { s with mc := { s.mc with active := false } }

/-- MINIT's effect (R267): the stop runs with the old mode. -/
def minitSeq (m : SpeedMode) (s : State) : State :=
  let s := mstopSeq s
  { s with mc := { s.mc with smode := m, p1 := 0, p2 := 0, active := false } }

/-- MSPEED's effect (R268): store the speeds, and restart PWM where a direction is driven. -/
def mspeedSeq (P : Params) (p1 p2 : BitVec 7) (s : State) : State :=
  let s := { s with mc := { s.mc with p1 := p1, p2 := p2 } }
  if s.mc.active then
    let s := mstopSeq s
    pwmStart P { s with mc := { s.mc with active := true } }
  else s

/-- MDIR's effect (R269). -/
def mdirSeq (P : Params) (d : Direction) (s : State) : State :=
  let s := mstopSeq s
  pwmStart P { s with mc := { s.mc with dir := d, active := true } }

/-- HBSET (R262). -/
def execHbset (m1 m2 : BitVec 3) (s : State) : Result :=
  withOperand (hbCodeOf m1) .eValue s fun c1 =>
  withOperand (hbCodeOf m2) .eValue s fun c2 =>
  accepted 0 (hbAction c1 c2 s)

/-- MINIT (R267). -/
def execMinit (smode : BitVec 1) (s : State) : Result := accepted 0 (minitSeq (speedModeOf smode) s)

/-- MSPEED (R268). -/
def execMspeed (p1 p2 : BitVec 7) (s : State) : Result :=
  require (isPercentage p1 && isPercentage p2) .eValue s <|
  accepted 0 (mspeedSeq Config.params p1 p2 s)

/-- MDIR (R269). -/
def execMdir (dir : BitVec 2) (s : State) : Result := accepted 0 (mdirSeq Config.params (directionOf dir) s)

/-- MSTOP (R270). -/
def execMstop (s : State) : Result := accepted 0 (mstopSeq s)

end Sys2Proof.Machine
end

