-- ==== Sys2Proof/Machine/Exti.lean ====
section
/-! DEFINITION. The external-interrupt lines (42_exti.md): XSENSE (R201) and the SAMPLE phase (R205). -/

namespace Sys2Proof.Machine

/-- Set a line's sensitivity, clear its flag and reload PREV from its pin (R201; also UINIT's writes to the echo line,
43_ultrasonic.md R222). -/
def setSense (i : Line) (m : Sense) (s : State) : State :=
  (s.setLine i ⟨m, s.pin i⟩).setFlag (lineSrc i) false

/-- XSENSE (R201). -/
def execXsense (line sense : BitVec 2) (s : State) : Result :=
  withOperand (lineOf line) .eLine s fun i =>
  accepted 0 (setSense i (senseOf sense) s)

/-- The SAMPLE phase for line `i` at this cycle's level (R205). -/
def sampleLine (level : Bool) (i : Line) (s : State) : State :=
  let hit := lineEvent (s.line.get i) level
  (s.setFlag (lineSrc i) (s.flag.get (lineSrc i) || hit)).setLine i ⟨(s.line.get i).sense, level⟩

/-- The SAMPLE phase (10_state.md R33): the three lines, at the levels ENV supplies for this cycle. -/
def samplePhase (p : Pins) (s : State) : State :=
  sampleLine p.int2 .int2 (sampleLine p.int1 .int1 (sampleLine p.int0 .int0 s))

end Sys2Proof.Machine
end

