-- ==== Sys2Proof/Machine/Ultrasonic.lean ====
section
/-! DEFINITION. The ultrasonic echo accumulator (43_ultrasonic.md): UINIT, UTRIG, UREAD (R222, R223, R225), the trigger pulse
(R230, R231), the actions ECHO_EDGE and ECHO_OVF (R235 to R240) and the distance (R244). RT is T2 and RT_OVF its overflow source. -/

namespace Sys2Proof.Machine

/-- UINIT's effect (R222): arm the echo line, bind the two actions, abort any session; the results and GIE are kept. -/
def uinitSeq (P : Params) (s : State) : State :=
  let s := { s with us := { s.us with trig := false } }
  let s := setSense P.echoLine .anyEdge s
  let s := s.setSlot (echoSrc P) .echoEdge
  let s := s.setEn (echoSrc P) true
  let s := s.setSlot .t2Ovf .echoOvf
  let s := stopTimer .t2 s
  let s := s.setEn .t2Ovf false
  { s with us := { s.us with on := false, pcnt := 0, exp := .rising, ovf := 0 } }

/-- UTRIG's effect (R223): start a session's trigger pulse; nothing while a session is ON. -/
def utrigSeq (P : Params) (s : State) : State :=
  if s.us.on then s
  else { s with us := { s.us with on := true, pcnt := BitVec.ofNat 32 P.trigCycles, trig := true } }

/-- UREAD's DATA (R225): RES_TICKS, RES_TO, ON, EXP and PCNT != 0, from bit 0 up. -/
def ureadData (u : Ultrasonic) : Word :=
  0#4 ++ BitVec.ofBool (u.pcnt != 0) ++ BitVec.ofBool (edgeBit u.exp) ++ BitVec.ofBool u.on ++ BitVec.ofBool u.resTo ++ u.resTicks

/-- UINIT (R222). -/
def execUinit (s : State) : Result := accepted 0 (uinitSeq Config.params s)

/-- UTRIG (R223). -/
def execUtrig (s : State) : Result := accepted 0 (utrigSeq Config.params s)

/-- UREAD (R225). -/
def execUread (s : State) : Result := accepted (ureadData s.us) s

/-- `PULSE_END` (R231). -/
def pulseEnd (P : Params) (s : State) : State :=
  let s := { s with us := { s.us with trig := false, exp := .rising, ovf := 0 } }
  let s := tinitSeq (.t2 .normal) (.run P.rangingCs) s
  let s := s.setFlag .t2Ovf false
  let s := s.setFlag (echoSrc P) false
  s.setEn .t2Ovf true

/-- The PULSE phase (R230). -/
def pulsePhase (P : Params) (s : State) : State :=
  if s.us.pcnt = 0 then s
  else
    let s' := { s with us := { s.us with pcnt := s.us.pcnt - 1 } }
    if s'.us.pcnt = 0 then pulseEnd P s' else s'

/-- The gate of both echo actions: a session is ON and its trigger pulse is over (R237, R240). -/
def sessionGate (u : Ultrasonic) : Bool := u.on && u.pcnt == 0

/-- ECHO_EDGE on the rising edge (R235). -/
def echoRise (s : State) : State :=
  { s with t2 := { s.t2 with cnt := 0 }, us := { s.us with ovf := 0, exp := .falling } }

/-- ECHO_EDGE on the falling edge (R236): RES_TICKS = OVF * 256 + CNT, and the session ends. -/
def echoFall (s : State) : State :=
  let s := s.setEn .t2Ovf false
  { s with
    us := { s.us with
      resTicks := BitVec.ofNat 24 (s.us.ovf.toNat * 256 + s.t2.cnt.toNat)
      resTo := false, ovf := 0, exp := .rising, on := false }
    t2 := { s.t2 with cs := .stop } }

/-- The action ECHO_EDGE (R235 to R237): the expected edge decides, the pin is not read. -/
def echoEdge (s : State) : State :=
  if sessionGate s.us then
    match s.us.exp with
    | .rising  => echoRise s
    | .falling => echoFall s
  else s

/-- `TIMEOUT` (R239). -/
def timeout (s : State) : State :=
  { s with
    us := { s.us with resTo := true, resTicks := 0, ovf := 0, exp := .rising, on := false }
    t2 := { s.t2 with cnt := 0, cs := .stop } }.setEn .t2Ovf false

/-- The action ECHO_OVF (R238, R240). The increment is on unbounded integers (00_scope.md R9), so the comparison with MAX_OVF
comes before OVF could wrap (log 8). -/
def echoOvf (P : Params) (s : State) : State :=
  if sessionGate s.us then
    if s.us.ovf.toNat + 1 > P.maxOvf.val then timeout s
    else { s with us := { s.us with ovf := s.us.ovf + 1 } }
  else s

/-- A positive rational's value. -/
def posRatValue (q : PosRat) : Rat := (q.num.val : Rat) / (q.den.val : Rat)

/-- `DIST`, the exact distance in centimetres of the last result (R244). -/
def distance (P : Params) (u : Ultrasonic) : Rat :=
  if u.resTo then posRatValue P.maxDist
  else (u.resTicks.toNat : Rat) * (divisor P.rangingCs : Rat) * posRatValue P.vSound / (2 * (P.fClk.val : Rat))

/-- The host's floating-point value of the distance (R244, P9); no state of the block holds it. -/
def hostDistance (u : Ultrasonic) : Float := Config.distConv (distance Config.params u)

end Sys2Proof.Machine
end

