-- ==== Sys2Proof/Machine/Clock.lean ====
section
/-! DEFINITION. One CLOCK step (10_state.md R33) and its DISPATCH phase (60_exceptions.md R326, 41_events.md R188): the block's
analogue of taking an interrupt. A dispatch saves nothing and an action returns when it ends (R327, R328). -/

namespace Sys2Proof.Machine

/-- `RUN(a, x)`: run action `a` for source `x` (R188). -/
def runAction (P : Params) (a : Action) (x : Src) (s : State) : State :=
  match a with
  | .null     => s
  | .hostIrq  => hostIrq x s
  | .echoEdge => echoEdge s
  | .echoOvf  => echoOvf P s
  | .hb m1 m2 => hbAction m1 m2 s

/-- The visit of source `x` in the DISPATCH phase (R326): where it is pending and enabled, clear its flag and run its slot. -/
def dispatchSource (P : Params) (s : State) (x : Src) : State :=
  if s.ready x then runAction P (s.slot.get x) x (s.setFlag x false) else s

/-- The DISPATCH phase (R326): with GIE = 1, every source in id order, each action seeing the writes of those before it. -/
def dispatchPhase (P : Params) (s : State) : State :=
  if s.gie then srcsInOrder.foldl (dispatchSource P) s else s

/-- One CLOCK step: TICK, PULSE, SAMPLE at this cycle's levels, DISPATCH (10_state.md R33). -/
def clockPhases (P : Params) (s : State) : State :=
  dispatchPhase P (samplePhase (nextPins s.env) (pulsePhase P (tickPhase s)))

/-- A cycle ends with ENV's script at the next cycle's levels (42_exti.md R204; log 3). -/
def clockCycle (P : Params) (s : State) : State :=
  let s' := clockPhases P s
  { s' with env := s'.env.tail }

/-- `k` CLOCK steps and no command: `WAIT k` (45_access.md R304). -/
def clockCycles (P : Params) : Nat → State → State
  | 0,     s => s
  | k + 1, s => clockCycles P k (clockCycle P s)

end Sys2Proof.Machine
end

