-- ==== Sys2Proof/Machine/Dispatch.lean ====
section
/-! DEFINITION. One arm for each command (30_encoding.md R117): the command's meaning. -/

namespace Sys2Proof.Machine

def exec (i : Instr) (s : State) : Host.Outcome State Fault Refusal :=
  match i with
  | .nop => Sys2Proof.Machine.execNop s
  | .rdreg addr => Sys2Proof.Machine.execRdreg addr s
  | .uread => Sys2Proof.Machine.execUread s
  | .tinit tmr mode cs => Sys2Proof.Machine.execTinit tmr mode cs s
  | .tstop tmr => Sys2Proof.Machine.execTstop tmr s
  | .tsetcnt tmr val => Sys2Proof.Machine.execTsetcnt tmr val s
  | .tsetocr tmr ch val => Sys2Proof.Machine.execTsetocr tmr ch val s
  | .tseticr tmr val => Sys2Proof.Machine.execTseticr tmr val s
  | .tsetduty tmr ch p => Sys2Proof.Machine.execTsetduty tmr ch p s
  | .tocpin tmr ch com => Sys2Proof.Machine.execTocpin tmr ch com s
  | .evsetcb src act => Sys2Proof.Machine.execEvsetcb src act s
  | .even src => Sys2Proof.Machine.execEven src s
  | .evdis src => Sys2Proof.Machine.execEvdis src s
  | .evclrf src => Sys2Proof.Machine.execEvclrf src s
  | .irqack src => Sys2Proof.Machine.execIrqack src s
  | .gieset => Sys2Proof.Machine.execGieset s
  | .gieclr => Sys2Proof.Machine.execGieclr s
  | .xsense line sense => Sys2Proof.Machine.execXsense line sense s
  | .hbset m1 m2 => Sys2Proof.Machine.execHbset m1 m2 s
  | .minit smode => Sys2Proof.Machine.execMinit smode s
  | .mspeed p1 p2 => Sys2Proof.Machine.execMspeed p1 p2 s
  | .mdir dir => Sys2Proof.Machine.execMdir dir s
  | .mstop => Sys2Proof.Machine.execMstop s
  | .uinit => Sys2Proof.Machine.execUinit s
  | .utrig => Sys2Proof.Machine.execUtrig s

end Sys2Proof.Machine
end

