-- ==== Sys2Proof/Machine/HostPort.lean ====
section
/-! DEFINITION. The command port (45_access.md R300, 20_memory.md R80) and the interleaving of the agents (00_scope.md R6). -/

namespace Sys2Proof.Machine

/-- A HOST step: decode the word, reject it with E_OPCODE or E_RSVD, or run the command (R300, 60_exceptions.md R321). -/
def hostCommand (w : Word) (s : State) : Result :=
  match decode w with
  | .ok i    => exec i s
  | .error e => rejected e s

/-- The turn a state takes next. With no turn listed CLOCK runs: the block has no sleep state and runs every cycle
(60_exceptions.md R345; log 2). -/
def nextTurn (s : State) : Turn :=
  match s.agenda with
  | []     => .clock
  | a :: _ => a

/-- The state without the turn it takes next. -/
def dropTurn (s : State) : State := { s with agenda := s.agenda.tail }

/-- One agent's turn. -/
def runTurn (a : Turn) (s : State) : Result :=
  match a with
  | .host w => hostCommand w s
  | .clock  => .next (clockCycle Config.params s)

/-- Put a command word where the next step takes it: the head of the agenda (log 5). -/
def submit (w : Word) (s : State) : State := { s with agenda := .host w :: s.agenda }

end Sys2Proof.Machine
end

