-- ==== Sys2Proof/Machine/Step.lean ====
section
/-! DEFINITION. One step of the machine: the next turn of the agenda (00_scope.md R6). -/

namespace Sys2Proof.Machine

/-- One step: the next agent's turn, a HOST command or a CLOCK cycle. -/
def step (s : State) : Host.Outcome State Fault Refusal := runTurn (nextTurn s) (dropTurn s)

/-- The state whose very next step is the HOST step that submits the word `w`; everything else is as in `s`. -/
def State.withFetchWord (s : State) (nbits w : Nat) : State := submit (tableWord nbits w) s

end Sys2Proof.Machine
end

