-- ==== Sys2Proof/Machine/Outputs.lean ====
section
/-! DEFINITION. The block's outputs, each a function of the state (10_state.md R39, R45). The level of an output during a cycle is
its value at the cycle's start (R46). -/

namespace Sys2Proof.Machine

/-- The levels the block drives; an OC pin is none where the block does not drive it: `Z` (R45; log 9). -/
structure Outputs where
  trig : Bool
  hb1  : HBridge
  hb2  : HBridge
  oc0A : Option Bool
  oc1A : Option Bool
  oc1B : Option Bool
  oc2A : Option Bool
  irq  : Bool
deriving DecidableEq, Repr

/-- An OC pin: the latch, or not driven with COM = DISCONNECT (R45). -/
def ocPin (com : Com) (oc : Bool) : Option Bool :=
  match com with
  | .disconnect   => none
  | .toggle       => some oc
  | .nonInverting => some oc
  | .inverting    => some oc

/-- The outputs of a state (R45). -/
def outputs (s : State) : Outputs :=
  { trig := s.us.trig
    hb1  := s.hb1
    hb2  := s.hb2
    oc0A := ocPin s.t0.coma s.t0.oca
    oc1A := ocPin s.t1.coma s.t1.oca
    oc1B := ocPin s.t1.comb s.t1.ocb
    oc2A := ocPin s.t2.coma s.t2.oca
    irq  := s.irq }

end Sys2Proof.Machine
end

