-- ==== Sys2Proof/Safety.lean ====
section
/-! DEFINITION. What a safe state is, in the terms the statements use: the invariants of 10_state.md R49 and 40_timer.md R160. -/

namespace Sys2Proof.Machine

/-- PSC never exceeds DIV(CS) - 1 while the timer runs (40_timer.md R160). -/
abbrev prescalerInRange (cs : ClockSel) (psc : BitVec 10) : Prop :=
  match cs with
  | .stop  => True
  | .run d => psc.toNat ≤ divisor d - 1

/-- The four invariants of R49, in its order (a) to (d). -/
abbrev State.SessionInv (P : Params) (s : State) : Prop :=
  (s.us.on = false → s.us.exp = .rising ∧ s.us.ovf = 0 ∧ s.us.pcnt = 0) ∧
  s.us.ovf.toNat ≤ P.maxOvf.val ∧
  (0 < s.us.pcnt.toNat → s.us.on = true ∧ s.us.trig = true) ∧
  (s.mc.p1.toNat ≤ 100 ∧ s.mc.p2.toNat ≤ 100)

/-- The prescalers of the three timers are in range (R160). -/
abbrev State.PrescalerInv (s : State) : Prop :=
  prescalerInRange s.t0.cs s.t0.psc ∧ prescalerInRange s.t1.cs s.t1.psc ∧ prescalerInRange s.t2.cs s.t2.psc

/-- The trigger output is high in the pulse phase of a session and only there, and that phase expects a rising edge with no
overflow counted (DEDUCED from 43_ultrasonic.md R222, R223, R230 to R232). -/
abbrev State.PulseInv (s : State) : Prop :=
  (s.us.trig = true → 0 < s.us.pcnt.toNat) ∧ (0 < s.us.pcnt.toNat → s.us.exp = .rising ∧ s.us.ovf = 0)

/-- The invariant of the machine: every step keeps it. -/
abbrev State.Inv (P : Params) (s : State) : Prop := s.SessionInv P ∧ s.PrescalerInv ∧ s.PulseInv

end Sys2Proof.Machine
end

