-- ==== Sys2Proof/WellFormed.lean ====
section
/-! DEFINITION. The legal commands: the field checks of 60_exceptions.md R321, one list for each command, in ascending code
order, written from the table of R321 and the legal sets of 30_encoding.md R121. -/

namespace Sys2Proof

/-- TMR selects an 8-bit timer, T0 or T2 (00_scope.md R8). -/
def tmrIsEightBit (tmr : BitVec 2) : Bool := tmr == 0 || tmr == 2

/-- The reserved register addresses, as 20_memory.md R85 lists them. -/
def addrIsReserved (addr : BitVec 8) : Bool :=
  let a := addr.toNat
  a == 0x03 || (0x0E ≤ a && a ≤ 0x0F) || a == 0x13 || (0x15 ≤ a && a ≤ 0x17) || a == 0x1F || (0x2B ≤ a && a ≤ 0x2F) ||
  (0x32 ≤ a && a ≤ 0x33) || (0x35 ≤ a && a ≤ 0x37) || a == 0x3B || a == 0x3F || 0x43 ≤ a

/-- The reserved action codes, as 30_encoding.md R112 lists them. -/
def actIsReserved (act : BitVec 8) : Bool :=
  let a := act.toNat
  (0x04 ≤ a && a ≤ 0x3F) || 0x80 ≤ a || (0x40 ≤ a && (4 < a % 8 || 4 < a / 8 % 8))

/-- The field checks of a command in the order in which they run, each with the code it gives and whether it FAILS (R321).
E_OPCODE and E_RSVD are checks of the word and stand in Decode.lean. -/
def Instr.fieldChecks : Instr → List (Reject × Bool)
  | .nop                  => []
  | .rdreg addr           => [(.eAddr, addrIsReserved addr)]
  | .uread                => []
  | .tinit tmr mode cs    => [(.eTimer, tmr == 3), (.eMode, tmrIsEightBit tmr && mode == 3), (.eCs, 5 < cs.toNat)]
  | .tstop tmr            => [(.eTimer, tmr == 3)]
  | .tsetcnt tmr val      => [(.eTimer, tmr == 3), (.eValue, tmrIsEightBit tmr && 255 < val.toNat)]
  | .tsetocr tmr ch val   => [(.eTimer, tmr == 3), (.eChan, ch == 1 && tmrIsEightBit tmr), (.eValue, tmrIsEightBit tmr && 255 < val.toNat)]
  | .tseticr tmr _        => [(.eTimer, tmr != 1)]
  | .tsetduty tmr ch p    => [(.eTimer, tmr == 3), (.eChan, ch == 1 && tmrIsEightBit tmr), (.eValue, 100 < p.toNat)]
  | .tocpin tmr ch _      => [(.eTimer, tmr == 3), (.eChan, ch == 1 && tmrIsEightBit tmr)]
  | .evsetcb src act      => [(.eSrc, 10 < src.toNat), (.eAct, actIsReserved act)]
  | .even src             => [(.eSrc, 10 < src.toNat)]
  | .evdis src            => [(.eSrc, 10 < src.toNat)]
  | .evclrf src           => [(.eSrc, 10 < src.toNat)]
  | .irqack src           => [(.eSrc, 10 < src.toNat)]
  | .gieset               => []
  | .gieclr               => []
  | .xsense line _        => [(.eLine, line == 3)]
  | .hbset m1 m2          => [(.eValue, 4 < m1.toNat || 4 < m2.toNat)]
  | .minit _              => []
  | .mspeed p1 p2         => [(.eValue, 100 < p1.toNat || 100 < p2.toNat)]
  | .mdir _               => []
  | .mstop                => []
  | .uinit                => []
  | .utrig                => []

/-- The first field check that fails, if one does: the code the command is rejected with (R321). -/
def Instr.firstFailure (i : Instr) : Option Reject :=
  (i.fieldChecks.find? (fun c => c.2)).map (fun c => c.1)

/-- A legal command: every field is in its legal set (R121). -/
def Instr.wf (i : Instr) : Bool := i.fieldChecks.all (fun c => !c.2)

end Sys2Proof
end

