-- ==== Sys2Proof/Certificates/Slice0/Obligations.lean ====
section
/-! DEFINITION. The statements about the model, each from numbered rules of spec/, for the provers. -/

open Sys2Proof Sys2Proof.Machine

namespace Sys2Proof.Statements

/-- The response of an accepted command that reads nothing (45_access.md R303). -/
def okResp : Response := ⟨false, 0, 0⟩

/-- `k` steps of the machine from `s`. -/
def run (k : Nat) (s : State) : Host.Outcome State Fault Refusal := Host.Core.run Sys2Proof.core k s

/-- The level of the echo pin in the `j`-th cycle from now, counting from 0 (42_exti.md R203, R204). -/
def echoPinAt (P : Params) (s : State) (j : Nat) : Bool := (nextPins (s.env.drop j)).get P.echoLine

/-- Beside RT_OVF and ECHO_SRC, no source that is enabled has an echo action bound. The others may run any action else: the motors'
HB actions, HOST_IRQ or NONE. -/
def NoOtherEchoAction (P : Params) (s : State) : Prop :=
  ∀ x, x ≠ .t2Ovf → x ≠ echoSrc P → s.en.get x = true → s.slot.get x ≠ .echoEdge ∧ s.slot.get x ≠ .echoOvf

/-- Beside the sources `own`, no source that is enabled, nor RT_OVF (which the end of a pulse enables), has an HB action bound. The
others may run any action else: ECHO_EDGE, ECHO_OVF, HOST_IRQ or NONE (44_motor_pwm.md R275). -/
def NoOtherHbAction (own : List Src) (s : State) : Prop :=
  ∀ x, x ∉ own → (s.en.get x = true ∨ x = .t2Ovf) → ∀ m1 m2, s.slot.get x ≠ .hb m1 m2

/-- A session in its measuring phase, as UINIT, GIESET, UTRIG and the pulse's end leave it: no other enabled source runs an echo
action, no flag of its own two sources is pending (43_ultrasonic.md R221, R222, R231). -/
structure Measuring (P : Params) (s : State) : Prop where
  gie      : s.gie = true
  on       : s.us.on = true
  pulse    : s.us.pcnt = 0
  ovfSlot  : s.slot.get .t2Ovf = .echoOvf
  echoSlot : s.slot.get (echoSrc P) = .echoEdge
  ovfEn    : s.en.get .t2Ovf = true
  echoEn   : s.en.get (echoSrc P) = true
  others   : NoOtherEchoAction P s
  ovfFlag  : s.flag.get .t2Ovf = false
  echoFlag : s.flag.get (echoSrc P) = false
  sense    : (s.line.get P.echoLine).sense = .anyEdge
  mode     : s.t2.mode = .normal
  cs       : s.t2.cs = .run P.rangingCs
  psc      : s.t2.psc.toNat < divisor P.rangingCs

/-- Cycles of the ranging timer counted since the last restart: overflows, counter and prescaler read as one number. -/
def rangingCycles (P : Params) (s : State) : Nat :=
  (s.us.ovf.toNat * 256 + s.t2.cnt.toNat) * divisor P.rangingCs + s.t2.psc.toNat

/-- The cycles from a restart of the count to the timeout (43_ultrasonic.md R247). -/
def timeoutCycles (P : Params) : Nat := (P.maxOvf.val + 1) * 256 * divisor P.rangingCs

/-- The pattern a code writes to a channel that is in FASTSTOP. -/
def drivePattern (m : HbCode) : HBridge := applyCode m ⟨true, false, false⟩

end Sys2Proof.Statements

open Sys2Proof.Statements

/-! ### Encoding -/

/-- Words written out from the spec (30_encoding.md R124, R117; 95_test_vectors.md) decode to the commands they stand for. -/
def Obligations.SampleWordsDecode : Prop :=
  decode 0x104C0000 = .ok (.tinit 0 2 3) ∧ decode 0x402A2000 = .ok (.evsetcb 1 0x51) ∧ decode 0x84001B32 = .ok (.mspeed 54 50) ∧
  decode 0x60400000 = .ok (.xsense 0 1) ∧ decode 0x04000006 = .ok (.rdreg 6) ∧ decode 0x70000011 = .ok (.hbset 1 2) ∧
  decode 0xA0000000 = .ok .uinit ∧ decode 0x00000000 = .ok .nop ∧ decode 0x8B000000 = .ok (.mdir 3)

/-- Decoding an encoded command gives it back, with every field at every value. -/
def Obligations.DecodeOfEncodeIsTheCommand : Prop := ∀ i : Instr, decode (encode i) = .ok i

/-- A word the decoder reads is the encoding of what it read: each command has one word. -/
def Obligations.EncodeOfDecodeIsTheWord : Prop := ∀ (w : Word) (i : Instr), decode w = .ok i → encode i = w

/-- R118: the reserved opcodes are rejected with E_OPCODE and change nothing but the response. -/
def Obligations.ReservedOpcodesAreRejected : Prop :=
  ∀ (w : Word) (s : State),
    (let op := (opcodeOf w).toNat
     op = 0x03 ∨ (0x0B ≤ op ∧ op ≤ 0x0F) ∨ op = 0x17 ∨ (0x19 ≤ op ∧ op ≤ 0x1B) ∨ (0x1D ≤ op ∧ op ≤ 0x1F) ∨
       (0x24 ≤ op ∧ op ≤ 0x27) ∨ 0x2A ≤ op) →
    hostCommand w s = .next { s with resp := ⟨true, 1, 0⟩ }

/-- R119: a word with a 1 in its row's zero mask is rejected with E_RSVD, whatever its fields hold. -/
def Obligations.MustBeZeroBitsAreRejected : Prop :=
  ∀ (i : Instr) (w : Word) (s : State), opcodeOf w = opcodeOf (encode i) → w &&& zeroMaskOf i ≠ 0 →
    hostCommand w s = .next { s with resp := ⟨true, 2, 0⟩ }

/-! ### The step -/

/-- A HOST turn is one submission of its word in the state without the turn (R300): a word that decodes runs exactly its command, a
word that does not is rejected with the decoder's code and changes nothing else. So the word withFetchWord places (the model's
choice, log 5) runs in the very next step, in the state it was placed in. -/
def Obligations.StepRunsTheDecodedCommand : Prop :=
  (∀ (s : State) (w : Word) (rest : List Turn), s.agenda = .host w :: rest →
    step s = hostCommand w { s with agenda := rest } ∧
    (∀ e, decode w = .error e → step s = .next { s with agenda := rest, resp := ⟨true, rejectCode e, 0⟩ })) ∧
  (∀ (s : State) (w : Word) (rest : List Turn) (i : Instr), s.agenda = .host w :: rest → decode w = .ok i →
    step s = exec i { s with agenda := rest }) ∧
  (∀ (s : State) (w : Word) (i : Instr), decode w = .ok i → step (s.withFetchWord 32 w.toNat) = exec i s)

/-- A CLOCK turn, and an agenda with no turn left, run one cycle: TICK, PULSE, SAMPLE, DISPATCH in this order, then ENV's next
levels (R33). The empty agenda is the model's choice (log 2), the script's advance too (log 3). -/
def Obligations.StepRunsTheFourPhases : Prop :=
  ∀ (s : State), nextTurn s = .clock →
    ∃ t, step s = .next { t with env := t.env.tail } ∧
      t = dispatchPhase Config.params (samplePhase (nextPins s.env) (pulsePhase Config.params (tickPhase
        { s with agenda := s.agenda.tail })))

/-- The block raises no fault and refuses nothing: every step answers a next state (R333). -/
def Obligations.EveryStepAnswersANextState : Prop := ∀ s : State, ∃ t, step s = .next t

/-! ### Rejection and response -/

/-- R321: the field checks run in ascending code order, the first that fails gives ERRC, and a rejected command changes no state
but RESP. The eleven codes are those of R321's table, by number. -/
def Obligations.FirstFailingCheckRejects : Prop :=
  (rejectCode .eOpcode = 1 ∧ rejectCode .eRsvd = 2 ∧ rejectCode .eTimer = 3 ∧ rejectCode .eChan = 4 ∧ rejectCode .eMode = 5 ∧
    rejectCode .eCs = 6 ∧ rejectCode .eValue = 7 ∧ rejectCode .eSrc = 8 ∧ rejectCode .eAct = 9 ∧ rejectCode .eAddr = 10 ∧
    rejectCode .eLine = 11) ∧
  (∀ i : Instr, (i.fieldChecks.map (fun c => (rejectCode c.1).toNat)).Pairwise (· < ·)) ∧
  (∀ (i : Instr) (s : State) (e : Reject), i.firstFailure = some e →
    exec i s = .next { s with resp := ⟨true, rejectCode e, 0⟩ })

/-- A legal command is accepted: it answers a next state with ERR = 0 and ERRC = 0, and DATA = 0 unless it is RDREG or UREAD. -/
def Obligations.LegalCommandsAreAccepted : Prop :=
  ∀ (i : Instr) (s : State), i.wf = true →
    ∃ t, exec i s = .next t ∧ t.resp.err = false ∧ t.resp.errc = 0 ∧
      ((∀ a, i ≠ .rdreg a) → i ≠ .uread → t.resp.data = 0)

/-! ### Access -/

/-- NOP writes only the response, GIESET and GIECLR only GIE and the response (R301, R186, R187). -/
def Obligations.NopAndGieCommands : Prop :=
  ∀ s : State,
    exec .nop s = .next { s with resp := okResp } ∧
    exec .gieset s = .next { s with gie := true, resp := okResp } ∧
    exec .gieclr s = .next { s with gie := false, resp := okResp }

/-- R85: the reserved addresses have no byte, every other address has one, and RDREG of a reserved address is rejected with
E_ADDR. -/
def Obligations.ReservedAddressesAreRejected : Prop :=
  ∀ (s : State) (a : Byte),
    (regRead s a = none ↔
      (a = 0x03 ∨ (0x0E ≤ a ∧ a ≤ 0x0F) ∨ a = 0x13 ∨ (0x15 ≤ a ∧ a ≤ 0x17) ∨ a = 0x1F ∨ (0x2B ≤ a ∧ a ≤ 0x2F) ∨
       (0x32 ≤ a ∧ a ≤ 0x33) ∨ (0x35 ≤ a ∧ a ≤ 0x37) ∨ a = 0x3B ∨ a = 0x3F ∨ 0x43 ≤ a)) ∧
    (regRead s a = none → exec (.rdreg a) s = .next { s with resp := ⟨true, 10, 0⟩ })

/-- RDREG returns the byte zero-extended, loads TEMP on a T1 low-byte read, and changes nothing else (R302, R86). -/
def Obligations.RdregReturnsTheByteAndLatchesTemp : Prop :=
  ∀ (s : State) (a : Byte), addrIsReserved a = false →
    ∃ v, regRead s a = some v ∧
      exec (.rdreg a) s = .next { s with
        resp := ⟨false, 0, v.setWidth 32⟩
        temp :=
          if a = 0x06 then s.t1.cnt.extractLsb' 8 8 else if a = 0x08 then s.t1.ocra.extractLsb' 8 8
          else if a = 0x0A then s.t1.ocrb.extractLsb' 8 8 else if a = 0x0C then s.t1.icr.extractLsb' 8 8 else s.temp }

/-- R84 and R82: every register of the map shows its fields at their bit places, little-endian, and 0 in every bit not listed:
bit i of each flag byte is the bit of source i or 8 + i, and SLOT_s stands at 0x20 + s. The side effect on TEMP is
RdregReturnsTheByteAndLatchesTemp. -/
def Obligations.RegisterMapShowsTheFields : Prop :=
  ∀ (s : State) (v : Byte) (x : Src),
    (regRead s 0x00 = some v →
      v.toNat = (mode8Code s.t0.mode).toNat + 4 * (clockSelCode s.t0.cs).toNat + 32 * (comCode s.t0.coma).toNat) ∧
    (regRead s 0x01 = some v → v = s.t0.cnt) ∧ (regRead s 0x02 = some v → v = s.t0.ocra) ∧
    (regRead s 0x04 = some v →
      v.toNat = (mode16Code s.t1.mode).toNat + 4 * (clockSelCode s.t1.cs).toNat + 32 * (comCode s.t1.coma).toNat) ∧
    (regRead s 0x05 = some v → v.toNat = (comCode s.t1.comb).toNat) ∧
    (regRead s 0x06 = some v → v.toNat = s.t1.cnt.toNat % 256) ∧ (regRead s 0x08 = some v → v.toNat = s.t1.ocra.toNat % 256) ∧
    (regRead s 0x0A = some v → v.toNat = s.t1.ocrb.toNat % 256) ∧ (regRead s 0x0C = some v → v.toNat = s.t1.icr.toNat % 256) ∧
    (∀ a ∈ [(0x07 : Byte), 0x09, 0x0B, 0x0D], regRead s a = some v → v = s.temp) ∧
    (regRead s 0x10 = some v →
      v.toNat = (mode8Code s.t2.mode).toNat + 4 * (clockSelCode s.t2.cs).toNat + 32 * (comCode s.t2.coma).toNat) ∧
    (regRead s 0x11 = some v → v = s.t2.cnt) ∧ (regRead s 0x12 = some v → v = s.t2.ocra) ∧
    (regRead s 0x14 = some v → v.toNat = s.t0.oca.toNat + 2 * s.t1.oca.toNat + 4 * s.t1.ocb.toNat + 8 * s.t2.oca.toNat) ∧
    (srcId x < 8 →
      (regRead s 0x18 = some v → v.getLsbD (srcId x) = s.flag.get x) ∧
      (regRead s 0x1A = some v → v.getLsbD (srcId x) = s.en.get x) ∧
      (regRead s 0x1C = some v → v.getLsbD (srcId x) = s.irqp.get x)) ∧
    (8 ≤ srcId x →
      (regRead s 0x19 = some v → v.getLsbD (srcId x - 8) = s.flag.get x) ∧
      (regRead s 0x1B = some v → v.getLsbD (srcId x - 8) = s.en.get x) ∧
      (regRead s 0x1D = some v → v.getLsbD (srcId x - 8) = s.irqp.get x)) ∧
    (∀ a ∈ [(0x19 : Byte), 0x1B, 0x1D], regRead s a = some v → v.toNat < 8) ∧
    (regRead s 0x1E = some v → v.toNat = s.gie.toNat + 2 * s.irq.toNat) ∧
    regRead s (BitVec.ofNat 8 (0x20 + srcId x)) = some (actionCode (s.slot.get x)) ∧
    (regRead s 0x30 = some v →
      v.toNat = (senseCode s.line.int0.sense).toNat + 4 * (senseCode s.line.int1.sense).toNat +
        16 * (senseCode s.line.int2.sense).toNat) ∧
    (regRead s 0x31 = some v → v.toNat = s.line.int0.prev.toNat + 2 * s.line.int1.prev.toNat + 4 * s.line.int2.prev.toNat) ∧
    (regRead s 0x34 = some v →
      v.toNat = s.hb1.en.toNat + 2 * s.hb1.x.toNat + 4 * s.hb1.y.toNat + 16 * s.hb2.en.toNat + 32 * s.hb2.x.toNat +
        64 * s.hb2.y.toNat) ∧
    (regRead s 0x38 = some v →
      v.toNat = (speedModeBit s.mc.smode).toNat + 2 * (directionCode s.mc.dir).toNat + 8 * s.mc.active.toNat) ∧
    (regRead s 0x39 = some v → v.toNat = s.mc.p1.toNat) ∧ (regRead s 0x3A = some v → v.toNat = s.mc.p2.toNat) ∧
    (regRead s 0x3C = some v →
      v.toNat = s.us.on.toNat + 2 * (edgeBit s.us.exp).toNat + 4 * (decide (s.us.pcnt ≠ 0)).toNat + 8 * s.us.resTo.toNat +
        16 * s.us.trig.toNat) ∧
    (regRead s 0x3D = some v → v.toNat = s.us.ovf.toNat % 256) ∧ (regRead s 0x3E = some v → v.toNat = s.us.ovf.toNat / 256) ∧
    (regRead s 0x40 = some v → v.toNat = s.us.resTicks.toNat % 256) ∧
    (regRead s 0x41 = some v → v.toNat = s.us.resTicks.toNat / 256 % 256) ∧
    (regRead s 0x42 = some v → v.toNat = s.us.resTicks.toNat / 65536)

/-- R86: a T1 low-byte read followed by the read of the high byte returns both halves of one value, the one at the time of the
low-byte read, however many clock cycles run between them. -/
def Obligations.LowThenHighReadsOneValue : Prop :=
  ∀ (s : State) (lo hi : Byte) (v : BitVec 16),
    ((lo, hi, v) ∈ [((0x06 : Byte), (0x07 : Byte), s.t1.cnt), (0x08, 0x09, s.t1.ocra), (0x0A, 0x0B, s.t1.ocrb),
      (0x0C, 0x0D, s.t1.icr)]) →
    ∃ t, exec (.rdreg lo) s = .next t ∧ t.resp.data.toNat = v.toNat % 256 ∧
      ∀ (P : Params) (k : Nat), ∃ u, exec (.rdreg hi) (clockCycles P k t) = .next u ∧ u.resp.data.toNat = v.toNat / 256 ∧
        u.temp = t.temp

/-- UREAD's DATA, with EXP 0 for RISING and 1 for FALLING, and nothing else changes (R225). -/
def Obligations.UreadReturnsResultAndStatus : Prop :=
  edgeBit .rising = false ∧ edgeBit .falling = true ∧
  ∀ s : State, ∃ d : Word, exec .uread s = .next { s with resp := ⟨false, 0, d⟩ } ∧
    d.toNat = s.us.resTicks.toNat + s.us.resTo.toNat * 2 ^ 24 + s.us.on.toNat * 2 ^ 25 + (edgeBit s.us.exp).toNat * 2 ^ 26 +
      (decide (s.us.pcnt ≠ 0)).toNat * 2 ^ 27

/-! ### Timer commands -/

/-- TINIT writes MODE, CS, CNT = 0 and PSC = 0 of its timer and nothing else, in every legal mode and clock select; TSTOP clears
the clock select and nothing else (R131, R132, R133). The codes are those of R35 and R106, by number. -/
def Obligations.TinitAndTstopWriteTheClock : Prop :=
  (mode8Code .normal = 0 ∧ mode8Code .ctc = 1 ∧ mode8Code .fastPwm = 2) ∧
  (mode16Code .normal = 0 ∧ mode16Code .ctcOcra = 1 ∧ mode16Code .fastPwmIcr = 2 ∧ mode16Code .ctcIcr = 3) ∧
  (clockSelCode .stop = 0 ∧ clockSelCode (.run .div1) = 1 ∧ clockSelCode (.run .div8) = 2 ∧ clockSelCode (.run .div64) = 3 ∧
    clockSelCode (.run .div256) = 4 ∧ clockSelCode (.run .div1024) = 5) ∧
  ∀ (s : State) (m : Mode8) (m' : Mode16) (c : ClockSel),
    exec (.tinit 0 (mode8Code m) (clockSelCode c)) s =
      .next { s with t0 := { s.t0 with mode := m, cs := c, cnt := 0, psc := 0 }, resp := okResp } ∧
    exec (.tinit 1 (mode16Code m') (clockSelCode c)) s =
      .next { s with t1 := { s.t1 with mode := m', cs := c, cnt := 0, psc := 0 }, resp := okResp } ∧
    exec (.tinit 2 (mode8Code m) (clockSelCode c)) s =
      .next { s with t2 := { s.t2 with mode := m, cs := c, cnt := 0, psc := 0 }, resp := okResp } ∧
    exec (.tstop 0) s = .next { s with t0 := { s.t0 with cs := .stop }, resp := okResp } ∧
    exec (.tstop 1) s = .next { s with t1 := { s.t1 with cs := .stop }, resp := okResp } ∧
    exec (.tstop 2) s = .next { s with t2 := { s.t2 with cs := .stop }, resp := okResp }

/-- TSETCNT, TSETOCR and TSETICR write the counter, the channel's compare register and T1's ICR, 8 bits on T0 and T2 and 16 on
T1; TOCPIN writes the channel's COM field; each changes nothing else, the latch least of all. TSETICR on another timer is rejected
with E_TIMER (R134, R135, R136, R139). The COM codes are those of R107, by number. -/
def Obligations.TimerRegisterWrites : Prop :=
  (comCode .disconnect = 0 ∧ comCode .toggle = 1 ∧ comCode .nonInverting = 2 ∧ comCode .inverting = 3) ∧
  ∀ (s : State) (b : BitVec 8) (v : BitVec 16) (c : Com) (tmr : BitVec 2),
    exec (.tsetcnt 0 (b.setWidth 16)) s = .next { s with t0 := { s.t0 with cnt := b }, resp := okResp } ∧
    exec (.tsetcnt 1 v) s = .next { s with t1 := { s.t1 with cnt := v }, resp := okResp } ∧
    exec (.tsetcnt 2 (b.setWidth 16)) s = .next { s with t2 := { s.t2 with cnt := b }, resp := okResp } ∧
    exec (.tsetocr 0 0 (b.setWidth 16)) s = .next { s with t0 := { s.t0 with ocra := b }, resp := okResp } ∧
    exec (.tsetocr 1 0 v) s = .next { s with t1 := { s.t1 with ocra := v }, resp := okResp } ∧
    exec (.tsetocr 1 1 v) s = .next { s with t1 := { s.t1 with ocrb := v }, resp := okResp } ∧
    exec (.tsetocr 2 0 (b.setWidth 16)) s = .next { s with t2 := { s.t2 with ocra := b }, resp := okResp } ∧
    exec (.tseticr 1 v) s = .next { s with t1 := { s.t1 with icr := v }, resp := okResp } ∧
    (tmr ≠ 1 → exec (.tseticr tmr v) s = .next { s with resp := ⟨true, 3, 0⟩ }) ∧
    exec (.tocpin 0 0 (comCode c)) s = .next { s with t0 := { s.t0 with coma := c }, resp := okResp } ∧
    exec (.tocpin 1 0 (comCode c)) s = .next { s with t1 := { s.t1 with coma := c }, resp := okResp } ∧
    exec (.tocpin 1 1 (comCode c)) s = .next { s with t1 := { s.t1 with comb := c }, resp := okResp } ∧
    exec (.tocpin 2 0 (comCode c)) s = .next { s with t2 := { s.t2 with coma := c }, resp := okResp }

/-- R138: DUTY(p) is floor((256p + 50) / 100) - 1 modulo 256, no p is a tie, and the values the rule lists. -/
def Obligations.DutyValues : Prop :=
  (∀ p : BitVec 7, p.toNat ≤ 100 → ((duty p).toNat : Int) = ((256 * (p.toNat : Int) + 50) / 100 - 1) % 256) ∧
  (∀ p : Nat, p ≤ 100 → (256 * p) % 100 = (56 * p) % 100 ∧ (56 * p) % 100 ≠ 50) ∧
  (duty 0 = 255 ∧ duty 1 = 2 ∧ duty 10 = 25 ∧ duty 25 = 63 ∧ duty 50 = 127 ∧ duty 54 = 137 ∧ duty 75 = 191 ∧ duty 99 = 252 ∧
    duty 100 = 255)

/-- TSETDUTY writes the duty's compare value, zero-extended on T1, and nothing else (R137). -/
def Obligations.TsetdutyWritesTheDutyValue : Prop :=
  ∀ (s : State) (p : BitVec 7), p.toNat ≤ 100 →
    let d := (256 * p.toNat + 50) / 100 + 255
    exec (.tsetduty 0 0 p) s = .next { s with t0 := { s.t0 with ocra := BitVec.ofNat 8 d }, resp := okResp } ∧
    exec (.tsetduty 1 0 p) s = .next { s with t1 := { s.t1 with ocra := BitVec.ofNat 16 (d % 256) }, resp := okResp } ∧
    exec (.tsetduty 1 1 p) s = .next { s with t1 := { s.t1 with ocrb := BitVec.ofNat 16 (d % 256) }, resp := okResp } ∧
    exec (.tsetduty 2 0 p) s = .next { s with t2 := { s.t2 with ocra := BitVec.ofNat 8 d }, resp := okResp }

/-! ### Counters -/

/-- R36 and R37: the counter tops, the divisor of each clock-select code, and that a timer runs exactly when its code is not 0. -/
def Obligations.TopsAndDivisors : Prop :=
  (∀ t : Timer8, (t.mode = .normal → top8 t = 255) ∧ (t.mode = .ctc → top8 t = t.ocra) ∧ (t.mode = .fastPwm → top8 t = 255)) ∧
  (∀ t : Timer16, (t.mode = .normal → top16 t = 65535) ∧ (t.mode = .ctcOcra → top16 t = t.ocra) ∧
    (t.mode = .fastPwmIcr → top16 t = t.icr) ∧ (t.mode = .ctcIcr → top16 t = t.icr)) ∧
  (∀ (d : ClockDiv) (code : BitVec 3) (n : Nat), clockSelOf code = some (.run d) →
    (code, n) ∈ [((1 : BitVec 3), 1), (2, 8), (3, 64), (4, 256), (5, 1024)] → divisor d = n) ∧
  (∀ c : ClockSel, clockSelCode c ≠ 0 ↔ ∃ d, c = .run d)

/-- A tick counts up, and returns to 0 from TOP or MAX; registers and mode stay (R151, R160). -/
def Obligations.TickCountsUpOrWraps : Prop :=
  (∀ t : Timer8,
    (tick8 t).cnt.toNat = (if t.cnt = top8 t ∨ t.cnt.toNat = 255 then 0 else t.cnt.toNat + 1) ∧
    tick8 t = { t with cnt := (tick8 t).cnt, oca := (tick8 t).oca }) ∧
  (∀ t : Timer16,
    (tick16 t).cnt.toNat = (if t.cnt = top16 t ∨ t.cnt.toNat = 65535 then 0 else t.cnt.toNat + 1) ∧
    tick16 t = { t with cnt := (tick16 t).cnt, oca := (tick16 t).oca, ocb := (tick16 t).ocb })

/-- R152, R153 and R154: which events a tick gives. -/
def Obligations.TickEvents : Prop :=
  (∀ t : Timer8,
    ((tickEvents8 t).cmp = true ↔ t.cnt = t.ocra) ∧
    ((tickEvents8 t).ovf = true ↔ t.cnt.toNat = 255 ∨ (t.mode = .fastPwm ∧ t.cnt = top8 t))) ∧
  (∀ t : Timer16,
    ((tickEvents16 t).cmpA = true ↔ t.cnt = t.ocra) ∧ ((tickEvents16 t).cmpB = true ↔ t.cnt = t.ocrb) ∧
    ((tickEvents16 t).capt = true ↔ (t.mode = .fastPwmIcr ∨ t.mode = .ctcIcr) ∧ t.cnt = t.icr) ∧
    ((tickEvents16 t).ovf = true ↔ t.cnt.toNat = 65535 ∨ (t.mode = .fastPwmIcr ∧ t.cnt = t.icr)))

/-- The TICK phase sets the flags of the events of the timers that tick in this cycle, keeps every flag already set, and changes
no line flag and nothing but the timers and the flags (R33, R150 to R155, R158). -/
def Obligations.TickPhaseSetsTheEventFlags : Prop :=
  ∀ s : State,
    (let f := (tickPhase s).flag
     (f.t0Cmp = true ↔ s.flag.t0Cmp = true ∨ (prescalerTicks s.t0.cs s.t0.psc = true ∧ (tickEvents8 s.t0).cmp = true)) ∧
     (f.t0Ovf = true ↔ s.flag.t0Ovf = true ∨ (prescalerTicks s.t0.cs s.t0.psc = true ∧ (tickEvents8 s.t0).ovf = true)) ∧
     (f.t1CmpA = true ↔ s.flag.t1CmpA = true ∨ (prescalerTicks s.t1.cs s.t1.psc = true ∧ (tickEvents16 s.t1).cmpA = true)) ∧
     (f.t1CmpB = true ↔ s.flag.t1CmpB = true ∨ (prescalerTicks s.t1.cs s.t1.psc = true ∧ (tickEvents16 s.t1).cmpB = true)) ∧
     (f.t1Capt = true ↔ s.flag.t1Capt = true ∨ (prescalerTicks s.t1.cs s.t1.psc = true ∧ (tickEvents16 s.t1).capt = true)) ∧
     (f.t1Ovf = true ↔ s.flag.t1Ovf = true ∨ (prescalerTicks s.t1.cs s.t1.psc = true ∧ (tickEvents16 s.t1).ovf = true)) ∧
     (f.t2Cmp = true ↔ s.flag.t2Cmp = true ∨ (prescalerTicks s.t2.cs s.t2.psc = true ∧ (tickEvents8 s.t2).cmp = true)) ∧
     (f.t2Ovf = true ↔ s.flag.t2Ovf = true ∨ (prescalerTicks s.t2.cs s.t2.psc = true ∧ (tickEvents8 s.t2).ovf = true)) ∧
     f.int0 = s.flag.int0 ∧ f.int1 = s.flag.int1 ∧ f.int2 = s.flag.int2) ∧
    tickPhase s = { s with t0 := clock8 s.t0, t1 := clock16 s.t1, t2 := clock8 s.t2, flag := (tickPhase s).flag }

/-- From PSC = 0 a running timer ticks on the N-th cycle and not before; a stopped timer stands still with no event (R150,
R158). -/
def Obligations.FirstTickFallsOnTheNthCycle : Prop :=
  (∀ (d : ClockDiv) (t : Timer8), t.cs = .run d → t.psc = 0 →
    (∀ k, k < divisor d → clock8^[k] t = { t with psc := BitVec.ofNat 10 k }) ∧ clock8^[divisor d] t = tick8 t) ∧
  (∀ (d : ClockDiv) (t : Timer16), t.cs = .run d → t.psc = 0 →
    (∀ k, k < divisor d → clock16^[k] t = { t with psc := BitVec.ofNat 10 k }) ∧ clock16^[divisor d] t = tick16 t) ∧
  (∀ t : Timer8, t.cs = .stop → clock8 t = t ∧ clockEvents8 t = ⟨false, false⟩) ∧
  (∀ t : Timer16, t.cs = .stop → clock16 t = t ∧ clockEvents16 t = ⟨false, false, false, false⟩)

/-- R156: the output-compare latch of every channel over a tick: the compare acts first, then, in a FAST_PWM mode, the wrap. -/
def Obligations.OutputCompareLatchActions : Prop :=
  (∀ t : Timer8,
    let compare := t.cnt = t.ocra
    let bottom := t.mode = .fastPwm ∧ t.cnt.toNat = 255
    (t.coma = .disconnect → (tick8 t).oca = t.oca) ∧
    (t.coma = .toggle → ((tick8 t).oca = true ↔ (compare ∧ t.oca = false) ∨ (¬compare ∧ t.oca = true))) ∧
    (t.coma = .nonInverting → ((tick8 t).oca = true ↔ bottom ∨ (¬compare ∧ t.oca = true))) ∧
    (t.coma = .inverting → ((tick8 t).oca = true ↔ ¬bottom ∧ (compare ∨ t.oca = true)))) ∧
  (∀ t : Timer16,
    let bottom := t.mode = .fastPwmIcr ∧ (t.cnt = t.icr ∨ t.cnt.toNat = 65535)
    (t.coma = .disconnect → (tick16 t).oca = t.oca) ∧
    (t.coma = .toggle → ((tick16 t).oca = true ↔ (t.cnt = t.ocra ∧ t.oca = false) ∨ (t.cnt ≠ t.ocra ∧ t.oca = true))) ∧
    (t.coma = .nonInverting → ((tick16 t).oca = true ↔ bottom ∨ (t.cnt ≠ t.ocra ∧ t.oca = true))) ∧
    (t.coma = .inverting → ((tick16 t).oca = true ↔ ¬bottom ∧ (t.cnt = t.ocra ∨ t.oca = true))) ∧
    (t.comb = .disconnect → (tick16 t).ocb = t.ocb) ∧
    (t.comb = .toggle → ((tick16 t).ocb = true ↔ (t.cnt = t.ocrb ∧ t.ocb = false) ∨ (t.cnt ≠ t.ocrb ∧ t.ocb = true))) ∧
    (t.comb = .nonInverting → ((tick16 t).ocb = true ↔ bottom ∨ (t.cnt ≠ t.ocrb ∧ t.ocb = true))) ∧
    (t.comb = .inverting → ((tick16 t).ocb = true ↔ ¬bottom ∧ (t.cnt = t.ocrb ∨ t.ocb = true))))

/-- The PWM waveform of R157 as an invariant of the tick: a NON_INVERTING pin is 1 exactly while CNT <= OCR, an INVERTING pin
exactly while CNT > OCR, on every channel of every timer in a FAST_PWM mode whose count has not passed TOP. -/
def Obligations.PwmPinFollowsTheComparison : Prop :=
  (∀ t : Timer8, t.mode = .fastPwm →
    (t.coma = .nonInverting → (t.oca = true ↔ t.cnt ≤ t.ocra) → ((tick8 t).oca = true ↔ (tick8 t).cnt ≤ t.ocra)) ∧
    (t.coma = .inverting → (t.oca = false ↔ t.cnt ≤ t.ocra) → ((tick8 t).oca = false ↔ (tick8 t).cnt ≤ t.ocra))) ∧
  (∀ t : Timer16, t.mode = .fastPwmIcr → t.cnt ≤ t.icr →
    (tick16 t).cnt ≤ t.icr ∧
    (t.coma = .nonInverting → (t.oca = true ↔ t.cnt ≤ t.ocra) → ((tick16 t).oca = true ↔ (tick16 t).cnt ≤ t.ocra)) ∧
    (t.coma = .inverting → (t.oca = false ↔ t.cnt ≤ t.ocra) → ((tick16 t).oca = false ↔ (tick16 t).cnt ≤ t.ocra)) ∧
    (t.comb = .nonInverting → (t.ocb = true ↔ t.cnt ≤ t.ocrb) → ((tick16 t).ocb = true ↔ (tick16 t).cnt ≤ t.ocrb)) ∧
    (t.comb = .inverting → (t.ocb = false ↔ t.cnt ≤ t.ocrb) → ((tick16 t).ocb = false ↔ (tick16 t).cnt ≤ t.ocrb)))

/-! ### Router -/

/-- EVSETCB binds an action to the source's slot; EVEN, EVDIS, EVCLRF and IRQACK write the one bit of their source; each changes
nothing else, for every source and every legal action (R181 to R185). The source ids are those of R322 and the action and pattern
codes those of R112 and R113, by number. -/
def Obligations.RouterCommandsWriteTheirSource : Prop :=
  (srcId .t0Cmp = 0 ∧ srcId .t0Ovf = 1 ∧ srcId .t1CmpA = 2 ∧ srcId .t1CmpB = 3 ∧ srcId .t1Capt = 4 ∧ srcId .t1Ovf = 5 ∧
    srcId .t2Cmp = 6 ∧ srcId .t2Ovf = 7 ∧ srcId .int0 = 8 ∧ srcId .int1 = 9 ∧ srcId .int2 = 10) ∧
  (actionCode .null = 0x00 ∧ actionCode .hostIrq = 0x01 ∧ actionCode .echoEdge = 0x02 ∧ actionCode .echoOvf = 0x03) ∧
  (hbCodeCode .keep = 0 ∧ hbCodeCode .cw = 1 ∧ hbCodeCode .ccw = 2 ∧ hbCodeCode .fastStop = 3 ∧ hbCodeCode .freeStop = 4) ∧
  (∀ m1 m2, (actionCode (.hb m1 m2)).toNat = 0x40 + 8 * (hbCodeCode m2).toNat + (hbCodeCode m1).toNat) ∧
  ∀ (s : State) (x : Src) (a : Action),
    exec (.evsetcb (BitVec.ofNat 5 (srcId x)) (actionCode a)) s = .next { s with slot := s.slot.set x a, resp := okResp } ∧
    exec (.even (BitVec.ofNat 5 (srcId x))) s = .next { s with en := s.en.set x true, resp := okResp } ∧
    exec (.evdis (BitVec.ofNat 5 (srcId x))) s = .next { s with en := s.en.set x false, resp := okResp } ∧
    exec (.evclrf (BitVec.ofNat 5 (srcId x))) s = .next { s with flag := s.flag.set x false, resp := okResp } ∧
    exec (.irqack (BitVec.ofNat 5 (srcId x))) s = .next { s with irqp := s.irqp.set x false, resp := okResp }

/-- R192, R325 and R326: with no other source ready, a DISPATCH phase does what the table of R192 says: only FLAG = EN = GIE = 1
dispatches, and then the flag is cleared and the slot runs. With two sources ready the lower id runs first, and the later one sees
what the earlier wrote: where that cleared its enable, it stays pending. -/
def Obligations.DispatchNeedsFlagEnableAndGie : Prop :=
  (∀ (P : Params) (s : State) (x : Src), (∀ y, y ≠ x → s.ready y = false) →
    dispatchPhase P s =
      if s.flag.get x = true ∧ s.en.get x = true ∧ s.gie = true
      then runAction P (s.slot.get x) x { s with flag := s.flag.set x false } else s) ∧
  (∀ (P : Params) (s : State) (x y : Src), s.gie = true → srcId x < srcId y → s.ready x = true → s.ready y = true →
    (∀ z, z ≠ x → z ≠ y → s.ready z = false) →
    let first := runAction P (s.slot.get x) x { s with flag := s.flag.set x false }
    dispatchPhase P s =
      if first.en.get y = true then runAction P (s.slot.get y) y { first with flag := first.flag.set y false } else first)

/-- R188 to R191: what each action does: NONE nothing, HOST_IRQ sets the IRQP bit of the source that ran it, the HB action writes the
two channels, ECHO_EDGE and ECHO_OVF are those of EchoActions. R189: no action sets or clears a flag, writes GIE, a slot, or another
source's IRQP, or enables a source; so after a DISPATCH phase with GIE = 1 no source is left pending and enabled. -/
def Obligations.OneDispatchPassDrainsEverySource : Prop :=
  (∀ (P : Params) (x : Src) (s : State),
    runAction P .null x s = s ∧
    runAction P .hostIrq x s = { s with irqp := s.irqp.set x true } ∧
    runAction P .echoEdge x s = echoEdge s ∧
    runAction P .echoOvf x s = echoOvf P s ∧
    ∀ m1 m2, runAction P (.hb m1 m2) x s = { s with hb1 := applyCode m1 s.hb1, hb2 := applyCode m2 s.hb2 }) ∧
  (∀ (P : Params) (a : Action) (x : Src) (s : State),
    (runAction P a x s).flag = s.flag ∧ (runAction P a x s).gie = s.gie ∧ (runAction P a x s).slot = s.slot ∧
    (∀ y, y ≠ x → (runAction P a x s).irqp.get y = s.irqp.get y) ∧
    (∀ y, (runAction P a x s).en.get y = true → s.en.get y = true) ∧
    (∀ y, y ≠ .t2Ovf → (runAction P a x s).en.get y = s.en.get y)) ∧
  (∀ (P : Params) (s : State) (x : Src), s.gie = true → (dispatchPhase P s).ready x = false)

/-- With GIE = 0 a DISPATCH phase does nothing, so a cycle is its other three phases and runs no action: the H-bridge, the host
interrupts and the session's result and state hold, EXP and OVF too unless a trigger pulse ends, and a flag once set stays, but for
the two that the end of a trigger pulse clears (R326, R368, R231). -/
def Obligations.NoActionRunsWithGieClear : Prop :=
  ∀ (P : Params) (s : State), s.gie = false →
    let t := clockCycle P s
    dispatchPhase P s = s ∧
    t = { samplePhase (nextPins s.env) (pulsePhase P (tickPhase s)) with env := s.env.tail } ∧
    (s.us.pcnt ≠ 1 → t.us.exp = s.us.exp ∧ t.us.ovf = s.us.ovf ∧ t.t2 = clock8 s.t2) ∧
    t.hb1 = s.hb1 ∧ t.hb2 = s.hb2 ∧ t.irqp = s.irqp ∧ t.us.on = s.us.on ∧ t.us.resTicks = s.us.resTicks ∧
    t.us.resTo = s.us.resTo ∧
    (∀ x, s.flag.get x = true → (x = .t2Ovf ∨ x = echoSrc P → s.us.pcnt ≠ 1) → t.flag.get x = true)

/-- What no CLOCK cycle writes: GIE, the slots, the sensitivities, MC, TEMP, the response, the agenda, the timers' registers; and
what it does to ENV's script and PREV (R33, R47, R193, R205). -/
def Obligations.ClockCycleFrame : Prop :=
  ∀ (P : Params) (s : State),
    let t := clockCycle P s
    t.gie = s.gie ∧ t.slot = s.slot ∧ t.mc = s.mc ∧ t.temp = s.temp ∧ t.resp = s.resp ∧ t.agenda = s.agenda ∧
    t.env = s.env.tail ∧
    (∀ i, t.line.get i = ⟨(s.line.get i).sense, (nextPins s.env).get i⟩) ∧
    (t.t0.mode = s.t0.mode ∧ t.t0.cs = s.t0.cs ∧ t.t0.ocra = s.t0.ocra ∧ t.t0.coma = s.t0.coma) ∧
    (t.t1.mode = s.t1.mode ∧ t.t1.cs = s.t1.cs ∧ t.t1.ocra = s.t1.ocra ∧ t.t1.ocrb = s.t1.ocrb ∧ t.t1.icr = s.t1.icr ∧
      t.t1.coma = s.t1.coma ∧ t.t1.comb = s.t1.comb) ∧
    (t.t2.ocra = s.t2.ocra ∧ t.t2.coma = s.t2.coma) ∧
    (∀ x, x ≠ .t2Ovf → t.en.get x = s.en.get x)

/-- R193: three things write slots. No command but EVSETCB, UINIT and the two that run PWM_START changes a slot; UINIT changes no
slot but ECHO_SRC's and RT_OVF's, MSPEED and MDIR no slot but the motor timers'. -/
def Obligations.SlotWriters : Prop :=
  ∀ (i : Instr) (s t : State), exec i s = .next t →
    ((∀ x a, i ≠ .evsetcb x a) → i ≠ .uinit → (∀ p q, i ≠ .mspeed p q) → (∀ d, i ≠ .mdir d) → t.slot = s.slot) ∧
    (i = .uinit → ∀ x, x ≠ .t2Ovf → x ≠ echoSrc Config.params → t.slot.get x = s.slot.get x) ∧
    ((∃ p q, i = .mspeed p q) ∨ (∃ d, i = .mdir d) →
      ∀ x, x ≠ .t0Cmp → x ≠ .t0Ovf → x ≠ .t1CmpA → x ≠ .t1Capt → t.slot.get x = s.slot.get x)

/-- Who writes what among the commands: GIE, IRQP, TEMP, the flags, the lines, US, MC and the H-bridge change under no command
but those whose rules name them, no command sets a flag, and no command touches the agenda or ENV's script. -/
def Obligations.CommandsWriteOnlyTheirOwnState : Prop :=
  ∀ (i : Instr) (s t : State), exec i s = .next t →
    t.agenda = s.agenda ∧ t.env = s.env ∧
    (i ≠ .gieset → i ≠ .gieclr → t.gie = s.gie) ∧
    ((∀ x, i ≠ .irqack x) → t.irqp = s.irqp) ∧
    ((∀ a, i ≠ .rdreg a) → t.temp = s.temp) ∧
    (∀ x, t.flag.get x = true → s.flag.get x = true) ∧
    ((∀ x, i ≠ .evclrf x) → (∀ a m, i ≠ .xsense a m) → i ≠ .uinit → (∀ p q, i ≠ .mspeed p q) → (∀ d, i ≠ .mdir d) →
      t.flag = s.flag) ∧
    ((∀ a m, i ≠ .xsense a m) → i ≠ .uinit → t.line = s.line) ∧
    (i ≠ .uinit → i ≠ .utrig → t.us = s.us) ∧
    (t.us.resTicks = s.us.resTicks ∧ t.us.resTo = s.us.resTo) ∧
    ((∀ m, i ≠ .minit m) → (∀ p q, i ≠ .mspeed p q) → (∀ d, i ≠ .mdir d) → i ≠ .mstop → t.mc = s.mc) ∧
    ((∀ a b, i ≠ .hbset a b) → (∀ m, i ≠ .minit m) → (∀ p q, i ≠ .mspeed p q) → (∀ d, i ≠ .mdir d) → i ≠ .mstop →
      t.hb1 = s.hb1 ∧ t.hb2 = s.hb2) ∧
    ((∀ a m c, i ≠ .tinit a m c) → (∀ a, i ≠ .tstop a) → (∀ a v, i ≠ .tsetcnt a v) → (∀ a c v, i ≠ .tsetocr a c v) →
      (∀ a c p, i ≠ .tsetduty a c p) → (∀ a c m, i ≠ .tocpin a c m) → i ≠ .uinit → t.t2 = s.t2)

/-! ### External lines -/

/-- XSENSE writes the sensitivity, clears the line's flag, reloads PREV from the pin, and changes nothing else; line 3 is rejected
with E_LINE (R201, R204). The sensitivity codes are those of R40, by number. -/
def Obligations.XsenseSetsTheSensitivity : Prop :=
  (senseCode .lowLevel = 0 ∧ senseCode .anyEdge = 1 ∧ senseCode .falling = 2 ∧ senseCode .rising = 3) ∧
  ∀ (s : State) (m : Sense),
    (∀ (i : Line) (code : BitVec 2), (i, code) ∈ [(Line.int0, (0 : BitVec 2)), (.int1, 1), (.int2, 2)] →
      exec (.xsense code (senseCode m)) s =
        .next { s with line := s.line.set i ⟨m, (nextPins s.env).get i⟩, flag := s.flag.set (lineSrc i) false, resp := okResp }) ∧
    exec (.xsense 3 (senseCode m)) s = .next { s with resp := ⟨true, 11, 0⟩ }

/-- After XSENSE with an edge sensitivity the next SAMPLE phase sees no edge on that line, whatever the old sensitivity and the
pin's history (R204). -/
def Obligations.XsenseItselfMakesNoEdge : Prop :=
  ∀ (s : State) (m : Sense) (i : Line) (code : BitVec 2), m ≠ .lowLevel → lineOf code = some i →
    ∃ t, exec (.xsense code (senseCode m)) s = .next t ∧ (samplePhase (nextPins t.env) t).flag.get (lineSrc i) = false

/-- R205: a line's flag is set by its sensitivity's event and otherwise kept, and PREV becomes the sample. -/
def Obligations.SampleSetsTheLineFlag : Prop :=
  ∀ (p : Pins) (s : State) (i : Line),
    let l := s.line.get i
    let hit :=
      (l.sense = .lowLevel ∧ p.get i = false) ∨ (l.sense = .anyEdge ∧ p.get i ≠ l.prev) ∨
      (l.sense = .falling ∧ l.prev = true ∧ p.get i = false) ∨ (l.sense = .rising ∧ l.prev = false ∧ p.get i = true)
    ((samplePhase p s).flag.get (lineSrc i) = true ↔ s.flag.get (lineSrc i) = true ∨ hit) ∧
    (samplePhase p s).line.get i = ⟨l.sense, p.get i⟩

/-! ### Ultrasonic accumulator -/

/-- UINIT arms the echo line, binds the two actions, aborts any session and changes nothing else: the results and GIE are kept
(R222). -/
def Obligations.UinitArmsTheEchoLine : Prop :=
  ∀ s : State,
    exec .uinit s = .next { s with
      us   := { s.us with trig := false, on := false, pcnt := 0, exp := .rising, ovf := 0 }
      line := s.line.set Config.params.echoLine ⟨.anyEdge, (nextPins s.env).get Config.params.echoLine⟩
      flag := s.flag.set (echoSrc Config.params) false
      slot := (s.slot.set (echoSrc Config.params) .echoEdge).set .t2Ovf .echoOvf
      en   := (s.en.set (echoSrc Config.params) true).set .t2Ovf false
      t2   := { s.t2 with cs := .stop }
      resp := okResp }

/-- UTRIG starts a session's pulse when OFF, and when ON it leaves the whole block state unchanged but for the response (R223,
R224). -/
def Obligations.UtrigStartsOneSession : Prop :=
  ∀ s : State,
    (s.us.on = false →
      exec .utrig s = .next { s with
        us := { s.us with on := true, pcnt := BitVec.ofNat 32 Config.params.trigCycles, trig := true }, resp := okResp }) ∧
    (s.us.on = true → exec .utrig s = .next { s with resp := okResp })

/-- R235 to R240: what ECHO_EDGE and ECHO_OVF do: nothing outside a session's measuring phase; the rising edge restarts the count,
the falling edge leaves the result; the overflow counts up to MAX_OVF and times out beyond it. That it times out at OVF = 65535 too,
a state no run reaches, is DEDUCED (log 8). -/
def Obligations.EchoActions : Prop :=
  (∀ s : State,
    (¬(s.us.on = true ∧ s.us.pcnt = 0) → echoEdge s = s) ∧
    (s.us.on = true → s.us.pcnt = 0 → s.us.exp = .rising →
      echoEdge s = { s with t2 := { s.t2 with cnt := 0 }, us := { s.us with ovf := 0, exp := .falling } }) ∧
    (s.us.on = true → s.us.pcnt = 0 → s.us.exp = .falling →
      ∃ r : BitVec 24, r.toNat = s.us.ovf.toNat * 256 + s.t2.cnt.toNat ∧
        echoEdge s = { s with
          en := s.en.set .t2Ovf false, t2 := { s.t2 with cs := .stop }
          us := { s.us with resTicks := r, resTo := false, ovf := 0, exp := .rising, on := false } })) ∧
  (∀ (P : Params) (s : State),
    (¬(s.us.on = true ∧ s.us.pcnt = 0) → echoOvf P s = s) ∧
    (s.us.on = true → s.us.pcnt = 0 → s.us.ovf.toNat + 1 ≤ P.maxOvf.val →
      (echoOvf P s).us.ovf.toNat = s.us.ovf.toNat + 1 ∧
      echoOvf P s = { s with us := { s.us with ovf := (echoOvf P s).us.ovf } }) ∧
    (s.us.on = true → s.us.pcnt = 0 → P.maxOvf.val < s.us.ovf.toNat + 1 →
      echoOvf P s = { s with
        us := { s.us with resTo := true, resTicks := 0, ovf := 0, exp := .rising, on := false }
        t2 := { s.t2 with cnt := 0, cs := .stop }, en := s.en.set .t2Ovf false }))

/-- R246: in a cycle in which RT wraps and the echo edge is sampled, the overflow is counted before the edge, so the result is
the one with the wrap: (OVF + 1) * 256. No other enabled source runs an echo action (Measuring). -/
def Obligations.OverflowCountsBeforeTheEdge : Prop :=
  ∀ (P : Params) (s : State), Measuring P s → s.us.exp = .falling → s.us.ovf.toNat + 1 ≤ P.maxOvf.val →
    s.t2.cnt = 255 → s.t2.psc.toNat + 1 = divisor P.rangingCs → echoPinAt P s 0 ≠ (s.line.get P.echoLine).prev →
    (clockCycle P s).us.resTicks.toNat = (s.us.ovf.toNat + 1) * 256 ∧ (clockCycle P s).us.resTo = false ∧
    (clockCycle P s).us.on = false

/-- The trigger pulse (R230): after UTRIG in OFF, with no further command, TRIG is 1 at the start of each of the next TRIG_CYCLES
cycles and 0 from then on. That the empty agenda runs CLOCK is the model's choice (log 2). -/
def Obligations.TriggerPulseLastsTrigCycles : Prop :=
  ∀ s : State, s.agenda = [] → s.us.on = false →
    ∃ t, exec .utrig s = .next t ∧
      ∀ k, ∃ u, run k t = .next u ∧
        (k < Config.params.trigCycles →
          u.us.trig = true ∧ u.us.on = true ∧ u.us.pcnt.toNat = Config.params.trigCycles - k) ∧
        (Config.params.trigCycles ≤ k → u.us.trig = false ∧ u.us.pcnt = 0)

/-- PULSE_END and the phase that runs it (R230, R231): with PCNT = 0 the PULSE phase does nothing, above 1 it only counts down, and at
1 it starts RT from 0 in NORMAL mode at the ranging clock, clears the two flags, enables RT_OVF, resets EXP, OVF and TRIG, and
changes nothing else. So the cycle of the pulse's end, with no edge on the echo line in it and no other enabled source that runs an
echo action, leaves a session in its measuring phase at count 0; and UINIT, GIESET, UTRIG and the cycles of the pulse reach it from
any state with no such source and the echo line standing still. The model's choices in this last clause: the empty agenda runs CLOCK
(log 2), and the pins' levels stand in ENV's script (log 3). -/
def Obligations.PulseEndStartsTheMeasurement : Prop :=
  (∀ (P : Params) (s : State),
    (s.us.pcnt = 0 → pulsePhase P s = s) ∧
    (1 < s.us.pcnt.toNat → pulsePhase P s = { s with us := { s.us with pcnt := s.us.pcnt - 1 } }) ∧
    (s.us.pcnt = 1 → pulsePhase P s = { s with
      us   := { s.us with pcnt := 0, trig := false, exp := .rising, ovf := 0 }
      t2   := { s.t2 with mode := .normal, cs := .run P.rangingCs, cnt := 0, psc := 0 }
      flag := (s.flag.set .t2Ovf false).set (echoSrc P) false
      en   := s.en.set .t2Ovf true })) ∧
  (∀ (P : Params) (s : State), s.gie = true → s.us.on = true → s.us.pcnt = 1 → s.slot.get .t2Ovf = .echoOvf →
    s.slot.get (echoSrc P) = .echoEdge → s.en.get (echoSrc P) = true →
    NoOtherEchoAction P s → (s.line.get P.echoLine).sense = .anyEdge →
    echoPinAt P s 0 = (s.line.get P.echoLine).prev →
    Measuring P (clockCycle P s) ∧ rangingCycles P (clockCycle P s) = 0 ∧ (clockCycle P s).us.exp = .rising) ∧
  (∀ s : State, s.agenda = [] → NoOtherEchoAction Config.params s →
    (∀ j, j < Config.params.trigCycles → echoPinAt Config.params s j = echoPinAt Config.params s 0) →
    ∃ a b c u, exec .uinit s = .next a ∧ exec .gieset a = .next b ∧ exec .utrig b = .next c ∧
      run Config.params.trigCycles c = .next u ∧
      Measuring Config.params u ∧ rangingCycles Config.params u = 0 ∧ u.us.exp = .rising)

/-- The timeout (R247, first bound; R239): from the end of the pulse, with no echo edge, the session is ON for exactly
(MAX_OVF + 1) * 256 * N_R cycles and ends with RES_TO = 1, whatever other sources are enabled, if none of them runs an echo action.
The model's choices: the empty agenda runs CLOCK (log 2), and the pins' levels stand in ENV's script (log 3). -/
def Obligations.SessionWithoutEchoTimesOut : Prop :=
  ∀ s : State, s.agenda = [] → Measuring Config.params s → rangingCycles Config.params s = 0 →
    (∀ j, j < timeoutCycles Config.params → echoPinAt Config.params s j = (s.line.get Config.params.echoLine).prev) →
    (∀ k, k < timeoutCycles Config.params → ∃ u, run k s = .next u ∧ u.us.on = true) ∧
    ∃ u, run (timeoutCycles Config.params) s = .next u ∧ u.us.on = false ∧ u.us.resTo = true ∧ u.us.resTicks = 0 ∧
      u.t2.cs = .stop ∧ u.en.get .t2Ovf = false

/-- One-tick accuracy (R245): with the rising edge in the next cycle, the falling edge k cycles later and no timeout, the session
ends with RES_TICKS between floor(k / N_R) and ceil(k / N_R), and k system cycles differ from RES_TICKS ticks by less than one
tick, whatever other sources are enabled, if none of them runs an echo action. The model's choices: the empty agenda runs CLOCK
(log 2), and the pins' levels stand in ENV's script (log 3). -/
def Obligations.EchoMeasuresTheEdgeDistance : Prop :=
  ∀ (s : State) (k : Nat), s.agenda = [] → Measuring Config.params s → s.us.exp = .rising →
    rangingCycles Config.params s + 1 < timeoutCycles Config.params → 0 < k →
    echoPinAt Config.params s 0 ≠ (s.line.get Config.params.echoLine).prev →
    (∀ j, 0 < j → j < k → echoPinAt Config.params s j = echoPinAt Config.params s 0) →
    echoPinAt Config.params s k ≠ echoPinAt Config.params s 0 →
    k + divisor Config.params.rangingCs ≤ timeoutCycles Config.params →
    ∃ u, run (k + 1) s = .next u ∧ u.us.on = false ∧ u.us.resTo = false ∧
      (let n := divisor Config.params.rangingCs
       k / n ≤ u.us.resTicks.toNat ∧ u.us.resTicks.toNat ≤ (k + n - 1) / n ∧
       u.us.resTicks.toNat * n < k + n ∧ k < (u.us.resTicks.toNat + 1) * n)

/-- Whole-machine rule (R220, R221, D36): a session begins only in a UTRIG step, and ends only in a UINIT step or in a cycle with
GIE = 1 in which a source that is enabled, and pending after the SAMPLE phase, dispatches an ECHO_EDGE that leaves a result or an
ECHO_OVF that times out. -/
def Obligations.SessionTransitions : Prop :=
  ∀ s t : State, step s = .next t →
    (s.us.on = false → t.us.on = true → ∃ w, nextTurn s = .host w ∧ decode w = .ok .utrig) ∧
    (s.us.on = true → t.us.on = false →
      (∃ w, nextTurn s = .host w ∧ decode w = .ok .uinit) ∨
      (nextTurn s = .clock ∧ s.gie = true ∧ s.us.pcnt.toNat ≤ 1 ∧
        ∃ x, s.en.get x = true ∧
          (samplePhase (nextPins s.env) (pulsePhase Config.params (tickPhase s))).flag.get x = true ∧
          ((s.slot.get x = .echoEdge ∧ t.us.resTo = false) ∨
           (s.slot.get x = .echoOvf ∧ t.us.resTo = true ∧ t.us.resTicks = 0))))

/-! ### Motor -/

/-- HBSET writes the two channels and nothing else, for every legal pair of codes, with the numbers and the patterns of R260
(R262). -/
def Obligations.HbsetWritesTheChannels : Prop :=
  (hbCodeCode .keep = 0 ∧ hbCodeCode .cw = 1 ∧ hbCodeCode .ccw = 2 ∧ hbCodeCode .fastStop = 3 ∧ hbCodeCode .freeStop = 4) ∧
  (∀ (s : State) (m1 m2 : HbCode),
    exec (.hbset (hbCodeCode m1) (hbCodeCode m2)) s =
      .next { s with hb1 := applyCode m1 s.hb1, hb2 := applyCode m2 s.hb2, resp := okResp }) ∧
  (∀ h : HBridge,
    applyCode .keep h = h ∧ applyCode .cw h = ⟨true, false, true⟩ ∧ applyCode .ccw h = ⟨true, true, false⟩ ∧
    applyCode .fastStop h = ⟨true, false, false⟩ ∧ applyCode .freeStop h = ⟨false, h.x, h.y⟩)

/-- MSTOP and MINIT (R266, R267, R270): the motor timers of the OLD mode stop, their events are disabled, both channels are in
FASTSTOP; MINIT then selects the mode (SMODE 0 SAME_SPEED, 1 DIFFERENT_SPEEDS, R42) and clears the speeds, keeping DIR. Nothing else
changes. -/
def Obligations.MstopAndMinitStopTheMotors : Prop :=
  speedModeBit .same = false ∧ speedModeBit .different = true ∧
  ∀ (s : State) (m : SpeedMode),
    let stopped : State := { s with
      t0  := { s.t0 with cs := .stop }
      t1  := if s.mc.smode = .different then { s.t1 with cs := .stop } else s.t1
      en  := { s.en with
        t0Cmp := false, t0Ovf := false
        t1CmpA := if s.mc.smode = .different then false else s.en.t1CmpA
        t1Capt := if s.mc.smode = .different then false else s.en.t1Capt }
      hb1 := ⟨true, false, false⟩, hb2 := ⟨true, false, false⟩
      mc  := { s.mc with active := false }, resp := okResp }
    exec .mstop s = .next stopped ∧
    exec (.minit (BitVec.ofBool (speedModeBit m))) s =
      .next { stopped with mc := { smode := m, dir := s.mc.dir, active := false, p1 := 0, p2 := 0 } }

/-- MDIR in SAME_SPEED (R263 to R266, R269), with the direction codes and the direction map of R263: with P1 = 0 both motors stay in FASTSTOP; with P1 > 0
T0 starts its PWM at DUTY(P1) and both channels drive at once. T1 is not touched. -/
def Obligations.MdirDrivesInSameSpeed : Prop :=
  (directionCode .forward = 0 ∧ directionCode .backward = 1 ∧ directionCode .right = 2 ∧ directionCode .left = 3) ∧
  ((drive1 .forward, drive2 .forward) = (HbCode.cw, HbCode.ccw) ∧ (drive1 .backward, drive2 .backward) = (HbCode.ccw, HbCode.cw) ∧
    (drive1 .right, drive2 .right) = (HbCode.ccw, HbCode.ccw) ∧ (drive1 .left, drive2 .left) = (HbCode.cw, HbCode.cw)) ∧
  (∀ (s : State) (d : Direction), s.mc.smode = .same →
    let mc' : Motor := { s.mc with dir := d, active := true }
    (s.mc.p1 = 0 →
      exec (.mdir (directionCode d)) s = .next { s with
        t0  := { s.t0 with cs := .stop }
        en  := { s.en with t0Cmp := false, t0Ovf := false }
        hb1 := ⟨true, false, false⟩, hb2 := ⟨true, false, false⟩, mc := mc', resp := okResp }) ∧
    (s.mc.p1 ≠ 0 →
      exec (.mdir (directionCode d)) s = .next { s with
        t0   := { s.t0 with mode := .fastPwm, cs := .run Config.params.pwmCs, cnt := 0, psc := 0, ocra := duty s.mc.p1 }
        slot := { s.slot with t0Cmp := .hb .fastStop .fastStop, t0Ovf := .hb (drive1 d) (drive2 d) }
        flag := { s.flag with t0Cmp := false, t0Ovf := false }
        en   := { s.en with t0Cmp := true, t0Ovf := true }
        hb1  := drivePattern (drive1 d), hb2 := drivePattern (drive2 d), mc := mc', resp := okResp }))

/-- MDIR in DIFFERENT_SPEEDS (R263 to R266, R269): T1 drives motor 1 at P1 with TOP = ICR = 255, T0 drives motor 2 at P2; a motor
whose percentage is 0 stays in FASTSTOP, its timer stopped and its events disabled. -/
def Obligations.MdirDrivesInDifferentSpeeds : Prop :=
  ∀ (s : State) (d : Direction), s.mc.smode = .different →
    exec (.mdir (directionCode d)) s = .next { s with
      t1   := if s.mc.p1 = 0 then { s.t1 with cs := .stop } else
        { s.t1 with mode := .fastPwmIcr, cs := .run Config.params.pwmCs, cnt := 0, psc := 0, icr := 255,
                    ocra := (duty s.mc.p1).setWidth 16 }
      t0   := if s.mc.p2 = 0 then { s.t0 with cs := .stop } else
        { s.t0 with mode := .fastPwm, cs := .run Config.params.pwmCs, cnt := 0, psc := 0, ocra := duty s.mc.p2 }
      slot := { s.slot with
        t1CmpA := if s.mc.p1 = 0 then s.slot.t1CmpA else .hb .fastStop .keep
        t1Capt := if s.mc.p1 = 0 then s.slot.t1Capt else .hb (drive1 d) .keep
        t0Cmp  := if s.mc.p2 = 0 then s.slot.t0Cmp else .hb .keep .fastStop
        t0Ovf  := if s.mc.p2 = 0 then s.slot.t0Ovf else .hb .keep (drive2 d) }
      flag := { s.flag with
        t1CmpA := decide (s.mc.p1 = 0) && s.flag.t1CmpA, t1Capt := decide (s.mc.p1 = 0) && s.flag.t1Capt
        t0Cmp  := decide (s.mc.p2 = 0) && s.flag.t0Cmp, t0Ovf := decide (s.mc.p2 = 0) && s.flag.t0Ovf }
      en   := { s.en with
        t1CmpA := decide (s.mc.p1 ≠ 0), t1Capt := decide (s.mc.p1 ≠ 0)
        t0Cmp  := decide (s.mc.p2 ≠ 0), t0Ovf := decide (s.mc.p2 ≠ 0) }
      hb1  := if s.mc.p1 = 0 then ⟨true, false, false⟩ else drivePattern (drive1 d)
      hb2  := if s.mc.p2 = 0 then ⟨true, false, false⟩ else drivePattern (drive2 d)
      mc   := { s.mc with dir := d, active := true }
      resp := okResp }

/-- MSPEED (R268): with no direction driven it only stores the speeds; while one is driven it answers the next state that MDIR of
the current direction gives with the new speeds stored. -/
def Obligations.MspeedStoresOrRestarts : Prop :=
  ∀ (s : State) (p1 p2 : BitVec 7), p1.toNat ≤ 100 → p2.toNat ≤ 100 →
    (s.mc.active = false →
      exec (.mspeed p1 p2) s = .next { s with mc := { s.mc with p1 := p1, p2 := p2 }, resp := okResp }) ∧
    (s.mc.active = true →
      ∃ t, exec (.mspeed p1 p2) s = .next t ∧
        exec (.mdir (directionCode s.mc.dir)) { s with mc := { s.mc with p1 := p1, p2 := p2 } } = .next t)

/-- Repeating a motor command with no cycle between changes nothing more: MDIR twice is MDIR once, MSTOP twice is MSTOP once
(R274, R270). -/
def Obligations.MotorCommandsAreIdempotent : Prop :=
  (∀ (d : BitVec 2) (s : State), ∃ t, exec (.mdir d) s = .next t ∧ exec (.mdir d) t = .next t) ∧
  (∀ s : State, ∃ t, exec .mstop s = .next t ∧ exec .mstop t = .next t)

/-- R275: after MSTOP the current mode's motor timers are stopped, their events disabled and both channels in FASTSTOP; and no
later cycle changes a channel, unless an enabled source (or RT_OVF, which the end of a pulse enables) has an HB action bound. -/
def Obligations.StoppedMotorsStayStopped : Prop :=
  ∀ s : State, ∃ t, exec .mstop s = .next t ∧
    t.t0.cs = .stop ∧ t.en.t0Cmp = false ∧ t.en.t0Ovf = false ∧
    (s.mc.smode = .different → t.t1.cs = .stop ∧ t.en.t1CmpA = false ∧ t.en.t1Capt = false) ∧
    ((∀ x, (t.en.get x = true ∨ x = .t2Ovf) → ∀ m1 m2, t.slot.get x ≠ .hb m1 m2) →
      ∀ (P : Params) (k : Nat), (clockCycles P k t).hb1 = ⟨true, false, false⟩ ∧ (clockCycles P k t).hb2 = ⟨true, false, false⟩)

/-- The SAME_SPEED waveform (R271, R272, R376, R264): after MDIR at p = P1 in 0..100, with GIE = 1 and no command, both channels show,
for p > 0, their drive patterns in the first DUTY(p) + 1 ticks of every 256 and FASTSTOP in the others, and for p = 0 FASTSTOP
throughout. Other sources may be enabled and a session may run, as after UINIT and UTRIG (R354), if no source but T0's that is
enabled, nor RT_OVF, has an HB action bound. That the empty agenda runs CLOCK is the model's choice (log 2). -/
def Obligations.SameSpeedWaveform : Prop :=
  ∀ (s : State) (d : Direction), s.agenda = [] → s.gie = true → s.mc.smode = .same → s.mc.p1.toNat ≤ 100 →
    NoOtherHbAction [.t0Cmp, .t0Ovf] s →
    ∃ t, exec (.mdir (directionCode d)) s = .next t ∧
      ∀ k, ∃ u, run k t = .next u ∧
        if 0 < s.mc.p1.toNat ∧ k / divisor Config.params.pwmCs % 256 ≤ (duty s.mc.p1).toNat
        then u.hb1 = drivePattern (drive1 d) ∧ u.hb2 = drivePattern (drive2 d)
        else u.hb1 = ⟨true, false, false⟩ ∧ u.hb2 = ⟨true, false, false⟩

/-- The DIFFERENT_SPEEDS waveform (R271, R272, R376, R264): each motor's channel follows its own percentage in 0..100, in phase with
the other; a motor at 0 shows FASTSTOP throughout, whatever the other does. Other sources may be enabled and a session may run, as
after UINIT and UTRIG (R354), if no source but the four of the motors that is enabled, nor RT_OVF, has an HB action bound. That the
empty agenda runs CLOCK is the model's choice (log 2). -/
def Obligations.DifferentSpeedsWaveform : Prop :=
  ∀ (s : State) (d : Direction), s.agenda = [] → s.gie = true → s.mc.smode = .different →
    s.mc.p1.toNat ≤ 100 → s.mc.p2.toNat ≤ 100 → NoOtherHbAction [.t0Cmp, .t0Ovf, .t1CmpA, .t1Capt] s →
    ∃ t, exec (.mdir (directionCode d)) s = .next t ∧
      ∀ k, ∃ u, run k t = .next u ∧
        u.hb1 = (if 0 < s.mc.p1.toNat ∧ k / divisor Config.params.pwmCs % 256 ≤ (duty s.mc.p1).toNat then drivePattern (drive1 d)
          else ⟨true, false, false⟩) ∧
        u.hb2 = (if 0 < s.mc.p2.toNat ∧ k / divisor Config.params.pwmCs % 256 ≤ (duty s.mc.p2).toNat then drivePattern (drive2 d)
          else ⟨true, false, false⟩)

/-! ### Outputs, reset, invariants -/

/-- R45 and R39: the outputs as functions of the state; a disconnected OC pin is not driven. -/
def Obligations.OutputsOfAState : Prop :=
  ∀ s : State,
    (outputs s).trig = s.us.trig ∧ (outputs s).hb1 = s.hb1 ∧ (outputs s).hb2 = s.hb2 ∧
    (outputs s).oc0A = (if s.t0.coma = .disconnect then none else some s.t0.oca) ∧
    (outputs s).oc1A = (if s.t1.coma = .disconnect then none else some s.t1.oca) ∧
    (outputs s).oc1B = (if s.t1.comb = .disconnect then none else some s.t1.ocb) ∧
    (outputs s).oc2A = (if s.t2.coma = .disconnect then none else some s.t2.oca) ∧
    ((outputs s).irq = true ↔ ∃ x, s.irqp.get x = true)

/-- R60 and R61: the block after reset, whatever ENV will supply: every field at its reset value and PREV at its pin's level. -/
def Obligations.ResetValues : Prop :=
  ∀ script : List Pins,
    let s := State.resetWith script
    (∀ t ∈ [s.t0, s.t2], t.mode = .normal ∧ t.cs = .stop ∧ t.cnt = 0 ∧ t.psc = 0 ∧ t.ocra = 0 ∧ t.coma = .disconnect ∧
      t.oca = false) ∧
    (s.t1.mode = .normal ∧ s.t1.cs = .stop ∧ s.t1.cnt = 0 ∧ s.t1.psc = 0 ∧ s.t1.ocra = 0 ∧ s.t1.ocrb = 0 ∧ s.t1.icr = 0 ∧
      s.t1.coma = .disconnect ∧ s.t1.comb = .disconnect ∧ s.t1.oca = false ∧ s.t1.ocb = false) ∧
    (∀ x, s.flag.get x = false ∧ s.en.get x = false ∧ s.irqp.get x = false ∧ s.slot.get x = .null) ∧ s.gie = false ∧
    (∀ i, s.line.get i = ⟨.lowLevel, (nextPins script).get i⟩) ∧
    s.us = ⟨false, .rising, 0, 0, 0, false, false⟩ ∧ s.mc = ⟨.same, .forward, false, 0, 0⟩ ∧
    s.hb1 = ⟨false, false, false⟩ ∧ s.hb2 = ⟨false, false, false⟩ ∧ s.temp = 0 ∧ s.resp = ⟨false, 0, 0⟩

/-- The invariant holds at reset, for any parameters and any script of ENV's. -/
def Obligations.InvariantHoldsAtReset : Prop := ∀ (P : Params) (script : List Pins), (State.resetWith script).Inv P

/-- Every step keeps the invariant: the session invariants of R49, the prescaler range of R160, and the pulse phase's own. -/
def Obligations.EveryStepKeepsTheInvariant : Prop :=
  ∀ s t : State, s.Inv Config.params → step s = .next t → t.Inv Config.params

/-- R49: in every state reached from reset, under every sequence of commands and cycles and every behaviour of ENV, the four
session and duty invariants hold. -/
def Obligations.ReachableStatesKeepR49 : Prop :=
  ∀ (script : List Pins) (turns : List Turn) (k : Nat) (t : State),
    run k { State.resetWith script with agenda := turns } = .next t →
    (t.us.on = false → t.us.exp = .rising ∧ t.us.ovf = 0 ∧ t.us.pcnt = 0) ∧
    t.us.ovf.toNat ≤ Config.params.maxOvf.val ∧
    (0 < t.us.pcnt.toNat → t.us.on = true ∧ t.us.trig = true) ∧
    (t.mc.p1.toNat ≤ 100 ∧ t.mc.p2.toNat ≤ 100)
end

