-- ==== Sys2Proof/Laws/State.lean ====
section
/-! SUPPORT. One lemma for each field of State and each named update, so that no later proof unfolds a record update; and the
read-after-write laws of the values kept per source and per line. -/

namespace Sys2Proof.Machine

@[simp] theorem State.setFlag_t0 (s : State) (x : Src) (b : Bool) : (s.setFlag x b).t0 = s.t0 := rfl
@[simp] theorem State.setFlag_t1 (s : State) (x : Src) (b : Bool) : (s.setFlag x b).t1 = s.t1 := rfl
@[simp] theorem State.setFlag_t2 (s : State) (x : Src) (b : Bool) : (s.setFlag x b).t2 = s.t2 := rfl
@[simp] theorem State.setFlag_flag (s : State) (x : Src) (b : Bool) : (s.setFlag x b).flag = s.flag.set x b := rfl
@[simp] theorem State.setFlag_en (s : State) (x : Src) (b : Bool) : (s.setFlag x b).en = s.en := rfl
@[simp] theorem State.setFlag_slot (s : State) (x : Src) (b : Bool) : (s.setFlag x b).slot = s.slot := rfl
@[simp] theorem State.setFlag_irqp (s : State) (x : Src) (b : Bool) : (s.setFlag x b).irqp = s.irqp := rfl
@[simp] theorem State.setFlag_gie (s : State) (x : Src) (b : Bool) : (s.setFlag x b).gie = s.gie := rfl
@[simp] theorem State.setFlag_line (s : State) (x : Src) (b : Bool) : (s.setFlag x b).line = s.line := rfl
@[simp] theorem State.setFlag_us (s : State) (x : Src) (b : Bool) : (s.setFlag x b).us = s.us := rfl
@[simp] theorem State.setFlag_mc (s : State) (x : Src) (b : Bool) : (s.setFlag x b).mc = s.mc := rfl
@[simp] theorem State.setFlag_hb1 (s : State) (x : Src) (b : Bool) : (s.setFlag x b).hb1 = s.hb1 := rfl
@[simp] theorem State.setFlag_hb2 (s : State) (x : Src) (b : Bool) : (s.setFlag x b).hb2 = s.hb2 := rfl
@[simp] theorem State.setFlag_temp (s : State) (x : Src) (b : Bool) : (s.setFlag x b).temp = s.temp := rfl
@[simp] theorem State.setFlag_resp (s : State) (x : Src) (b : Bool) : (s.setFlag x b).resp = s.resp := rfl
@[simp] theorem State.setFlag_agenda (s : State) (x : Src) (b : Bool) : (s.setFlag x b).agenda = s.agenda := rfl
@[simp] theorem State.setFlag_env (s : State) (x : Src) (b : Bool) : (s.setFlag x b).env = s.env := rfl

@[simp] theorem State.setEn_t0 (s : State) (x : Src) (b : Bool) : (s.setEn x b).t0 = s.t0 := rfl
@[simp] theorem State.setEn_t1 (s : State) (x : Src) (b : Bool) : (s.setEn x b).t1 = s.t1 := rfl
@[simp] theorem State.setEn_t2 (s : State) (x : Src) (b : Bool) : (s.setEn x b).t2 = s.t2 := rfl
@[simp] theorem State.setEn_flag (s : State) (x : Src) (b : Bool) : (s.setEn x b).flag = s.flag := rfl
@[simp] theorem State.setEn_en (s : State) (x : Src) (b : Bool) : (s.setEn x b).en = s.en.set x b := rfl
@[simp] theorem State.setEn_slot (s : State) (x : Src) (b : Bool) : (s.setEn x b).slot = s.slot := rfl
@[simp] theorem State.setEn_irqp (s : State) (x : Src) (b : Bool) : (s.setEn x b).irqp = s.irqp := rfl
@[simp] theorem State.setEn_gie (s : State) (x : Src) (b : Bool) : (s.setEn x b).gie = s.gie := rfl
@[simp] theorem State.setEn_line (s : State) (x : Src) (b : Bool) : (s.setEn x b).line = s.line := rfl
@[simp] theorem State.setEn_us (s : State) (x : Src) (b : Bool) : (s.setEn x b).us = s.us := rfl
@[simp] theorem State.setEn_mc (s : State) (x : Src) (b : Bool) : (s.setEn x b).mc = s.mc := rfl
@[simp] theorem State.setEn_hb1 (s : State) (x : Src) (b : Bool) : (s.setEn x b).hb1 = s.hb1 := rfl
@[simp] theorem State.setEn_hb2 (s : State) (x : Src) (b : Bool) : (s.setEn x b).hb2 = s.hb2 := rfl
@[simp] theorem State.setEn_temp (s : State) (x : Src) (b : Bool) : (s.setEn x b).temp = s.temp := rfl
@[simp] theorem State.setEn_resp (s : State) (x : Src) (b : Bool) : (s.setEn x b).resp = s.resp := rfl
@[simp] theorem State.setEn_agenda (s : State) (x : Src) (b : Bool) : (s.setEn x b).agenda = s.agenda := rfl
@[simp] theorem State.setEn_env (s : State) (x : Src) (b : Bool) : (s.setEn x b).env = s.env := rfl

@[simp] theorem State.setSlot_t0 (s : State) (x : Src) (a : Action) : (s.setSlot x a).t0 = s.t0 := rfl
@[simp] theorem State.setSlot_t1 (s : State) (x : Src) (a : Action) : (s.setSlot x a).t1 = s.t1 := rfl
@[simp] theorem State.setSlot_t2 (s : State) (x : Src) (a : Action) : (s.setSlot x a).t2 = s.t2 := rfl
@[simp] theorem State.setSlot_flag (s : State) (x : Src) (a : Action) : (s.setSlot x a).flag = s.flag := rfl
@[simp] theorem State.setSlot_en (s : State) (x : Src) (a : Action) : (s.setSlot x a).en = s.en := rfl
@[simp] theorem State.setSlot_slot (s : State) (x : Src) (a : Action) : (s.setSlot x a).slot = s.slot.set x a := rfl
@[simp] theorem State.setSlot_irqp (s : State) (x : Src) (a : Action) : (s.setSlot x a).irqp = s.irqp := rfl
@[simp] theorem State.setSlot_gie (s : State) (x : Src) (a : Action) : (s.setSlot x a).gie = s.gie := rfl
@[simp] theorem State.setSlot_line (s : State) (x : Src) (a : Action) : (s.setSlot x a).line = s.line := rfl
@[simp] theorem State.setSlot_us (s : State) (x : Src) (a : Action) : (s.setSlot x a).us = s.us := rfl
@[simp] theorem State.setSlot_mc (s : State) (x : Src) (a : Action) : (s.setSlot x a).mc = s.mc := rfl
@[simp] theorem State.setSlot_hb1 (s : State) (x : Src) (a : Action) : (s.setSlot x a).hb1 = s.hb1 := rfl
@[simp] theorem State.setSlot_hb2 (s : State) (x : Src) (a : Action) : (s.setSlot x a).hb2 = s.hb2 := rfl
@[simp] theorem State.setSlot_temp (s : State) (x : Src) (a : Action) : (s.setSlot x a).temp = s.temp := rfl
@[simp] theorem State.setSlot_resp (s : State) (x : Src) (a : Action) : (s.setSlot x a).resp = s.resp := rfl
@[simp] theorem State.setSlot_agenda (s : State) (x : Src) (a : Action) : (s.setSlot x a).agenda = s.agenda := rfl
@[simp] theorem State.setSlot_env (s : State) (x : Src) (a : Action) : (s.setSlot x a).env = s.env := rfl

@[simp] theorem State.setIrqp_t0 (s : State) (x : Src) (b : Bool) : (s.setIrqp x b).t0 = s.t0 := rfl
@[simp] theorem State.setIrqp_t1 (s : State) (x : Src) (b : Bool) : (s.setIrqp x b).t1 = s.t1 := rfl
@[simp] theorem State.setIrqp_t2 (s : State) (x : Src) (b : Bool) : (s.setIrqp x b).t2 = s.t2 := rfl
@[simp] theorem State.setIrqp_flag (s : State) (x : Src) (b : Bool) : (s.setIrqp x b).flag = s.flag := rfl
@[simp] theorem State.setIrqp_en (s : State) (x : Src) (b : Bool) : (s.setIrqp x b).en = s.en := rfl
@[simp] theorem State.setIrqp_slot (s : State) (x : Src) (b : Bool) : (s.setIrqp x b).slot = s.slot := rfl
@[simp] theorem State.setIrqp_irqp (s : State) (x : Src) (b : Bool) : (s.setIrqp x b).irqp = s.irqp.set x b := rfl
@[simp] theorem State.setIrqp_gie (s : State) (x : Src) (b : Bool) : (s.setIrqp x b).gie = s.gie := rfl
@[simp] theorem State.setIrqp_line (s : State) (x : Src) (b : Bool) : (s.setIrqp x b).line = s.line := rfl
@[simp] theorem State.setIrqp_us (s : State) (x : Src) (b : Bool) : (s.setIrqp x b).us = s.us := rfl
@[simp] theorem State.setIrqp_mc (s : State) (x : Src) (b : Bool) : (s.setIrqp x b).mc = s.mc := rfl
@[simp] theorem State.setIrqp_hb1 (s : State) (x : Src) (b : Bool) : (s.setIrqp x b).hb1 = s.hb1 := rfl
@[simp] theorem State.setIrqp_hb2 (s : State) (x : Src) (b : Bool) : (s.setIrqp x b).hb2 = s.hb2 := rfl
@[simp] theorem State.setIrqp_temp (s : State) (x : Src) (b : Bool) : (s.setIrqp x b).temp = s.temp := rfl
@[simp] theorem State.setIrqp_resp (s : State) (x : Src) (b : Bool) : (s.setIrqp x b).resp = s.resp := rfl
@[simp] theorem State.setIrqp_agenda (s : State) (x : Src) (b : Bool) : (s.setIrqp x b).agenda = s.agenda := rfl
@[simp] theorem State.setIrqp_env (s : State) (x : Src) (b : Bool) : (s.setIrqp x b).env = s.env := rfl

@[simp] theorem State.setGie_t0 (s : State) (b : Bool) : (s.setGie b).t0 = s.t0 := rfl
@[simp] theorem State.setGie_t1 (s : State) (b : Bool) : (s.setGie b).t1 = s.t1 := rfl
@[simp] theorem State.setGie_t2 (s : State) (b : Bool) : (s.setGie b).t2 = s.t2 := rfl
@[simp] theorem State.setGie_flag (s : State) (b : Bool) : (s.setGie b).flag = s.flag := rfl
@[simp] theorem State.setGie_en (s : State) (b : Bool) : (s.setGie b).en = s.en := rfl
@[simp] theorem State.setGie_slot (s : State) (b : Bool) : (s.setGie b).slot = s.slot := rfl
@[simp] theorem State.setGie_irqp (s : State) (b : Bool) : (s.setGie b).irqp = s.irqp := rfl
@[simp] theorem State.setGie_gie (s : State) (b : Bool) : (s.setGie b).gie = b := rfl
@[simp] theorem State.setGie_line (s : State) (b : Bool) : (s.setGie b).line = s.line := rfl
@[simp] theorem State.setGie_us (s : State) (b : Bool) : (s.setGie b).us = s.us := rfl
@[simp] theorem State.setGie_mc (s : State) (b : Bool) : (s.setGie b).mc = s.mc := rfl
@[simp] theorem State.setGie_hb1 (s : State) (b : Bool) : (s.setGie b).hb1 = s.hb1 := rfl
@[simp] theorem State.setGie_hb2 (s : State) (b : Bool) : (s.setGie b).hb2 = s.hb2 := rfl
@[simp] theorem State.setGie_temp (s : State) (b : Bool) : (s.setGie b).temp = s.temp := rfl
@[simp] theorem State.setGie_resp (s : State) (b : Bool) : (s.setGie b).resp = s.resp := rfl
@[simp] theorem State.setGie_agenda (s : State) (b : Bool) : (s.setGie b).agenda = s.agenda := rfl
@[simp] theorem State.setGie_env (s : State) (b : Bool) : (s.setGie b).env = s.env := rfl

@[simp] theorem State.setLine_t0 (s : State) (i : Line) (l : ExtLine) : (s.setLine i l).t0 = s.t0 := rfl
@[simp] theorem State.setLine_t1 (s : State) (i : Line) (l : ExtLine) : (s.setLine i l).t1 = s.t1 := rfl
@[simp] theorem State.setLine_t2 (s : State) (i : Line) (l : ExtLine) : (s.setLine i l).t2 = s.t2 := rfl
@[simp] theorem State.setLine_flag (s : State) (i : Line) (l : ExtLine) : (s.setLine i l).flag = s.flag := rfl
@[simp] theorem State.setLine_en (s : State) (i : Line) (l : ExtLine) : (s.setLine i l).en = s.en := rfl
@[simp] theorem State.setLine_slot (s : State) (i : Line) (l : ExtLine) : (s.setLine i l).slot = s.slot := rfl
@[simp] theorem State.setLine_irqp (s : State) (i : Line) (l : ExtLine) : (s.setLine i l).irqp = s.irqp := rfl
@[simp] theorem State.setLine_gie (s : State) (i : Line) (l : ExtLine) : (s.setLine i l).gie = s.gie := rfl
@[simp] theorem State.setLine_line (s : State) (i : Line) (l : ExtLine) : (s.setLine i l).line = s.line.set i l := rfl
@[simp] theorem State.setLine_us (s : State) (i : Line) (l : ExtLine) : (s.setLine i l).us = s.us := rfl
@[simp] theorem State.setLine_mc (s : State) (i : Line) (l : ExtLine) : (s.setLine i l).mc = s.mc := rfl
@[simp] theorem State.setLine_hb1 (s : State) (i : Line) (l : ExtLine) : (s.setLine i l).hb1 = s.hb1 := rfl
@[simp] theorem State.setLine_hb2 (s : State) (i : Line) (l : ExtLine) : (s.setLine i l).hb2 = s.hb2 := rfl
@[simp] theorem State.setLine_temp (s : State) (i : Line) (l : ExtLine) : (s.setLine i l).temp = s.temp := rfl
@[simp] theorem State.setLine_resp (s : State) (i : Line) (l : ExtLine) : (s.setLine i l).resp = s.resp := rfl
@[simp] theorem State.setLine_agenda (s : State) (i : Line) (l : ExtLine) : (s.setLine i l).agenda = s.agenda := rfl
@[simp] theorem State.setLine_env (s : State) (i : Line) (l : ExtLine) : (s.setLine i l).env = s.env := rfl

@[simp] theorem State.respond_t0 (s : State) (d : Word) : (s.respond d).t0 = s.t0 := rfl
@[simp] theorem State.respond_t1 (s : State) (d : Word) : (s.respond d).t1 = s.t1 := rfl
@[simp] theorem State.respond_t2 (s : State) (d : Word) : (s.respond d).t2 = s.t2 := rfl
@[simp] theorem State.respond_flag (s : State) (d : Word) : (s.respond d).flag = s.flag := rfl
@[simp] theorem State.respond_en (s : State) (d : Word) : (s.respond d).en = s.en := rfl
@[simp] theorem State.respond_slot (s : State) (d : Word) : (s.respond d).slot = s.slot := rfl
@[simp] theorem State.respond_irqp (s : State) (d : Word) : (s.respond d).irqp = s.irqp := rfl
@[simp] theorem State.respond_gie (s : State) (d : Word) : (s.respond d).gie = s.gie := rfl
@[simp] theorem State.respond_line (s : State) (d : Word) : (s.respond d).line = s.line := rfl
@[simp] theorem State.respond_us (s : State) (d : Word) : (s.respond d).us = s.us := rfl
@[simp] theorem State.respond_mc (s : State) (d : Word) : (s.respond d).mc = s.mc := rfl
@[simp] theorem State.respond_hb1 (s : State) (d : Word) : (s.respond d).hb1 = s.hb1 := rfl
@[simp] theorem State.respond_hb2 (s : State) (d : Word) : (s.respond d).hb2 = s.hb2 := rfl
@[simp] theorem State.respond_temp (s : State) (d : Word) : (s.respond d).temp = s.temp := rfl
@[simp] theorem State.respond_resp (s : State) (d : Word) : (s.respond d).resp = ⟨false, 0, d⟩ := rfl
@[simp] theorem State.respond_agenda (s : State) (d : Word) : (s.respond d).agenda = s.agenda := rfl
@[simp] theorem State.respond_env (s : State) (d : Word) : (s.respond d).env = s.env := rfl

@[simp] theorem State.reject_t0 (s : State) (e : Reject) : (s.reject e).t0 = s.t0 := rfl
@[simp] theorem State.reject_t1 (s : State) (e : Reject) : (s.reject e).t1 = s.t1 := rfl
@[simp] theorem State.reject_t2 (s : State) (e : Reject) : (s.reject e).t2 = s.t2 := rfl
@[simp] theorem State.reject_flag (s : State) (e : Reject) : (s.reject e).flag = s.flag := rfl
@[simp] theorem State.reject_en (s : State) (e : Reject) : (s.reject e).en = s.en := rfl
@[simp] theorem State.reject_slot (s : State) (e : Reject) : (s.reject e).slot = s.slot := rfl
@[simp] theorem State.reject_irqp (s : State) (e : Reject) : (s.reject e).irqp = s.irqp := rfl
@[simp] theorem State.reject_gie (s : State) (e : Reject) : (s.reject e).gie = s.gie := rfl
@[simp] theorem State.reject_line (s : State) (e : Reject) : (s.reject e).line = s.line := rfl
@[simp] theorem State.reject_us (s : State) (e : Reject) : (s.reject e).us = s.us := rfl
@[simp] theorem State.reject_mc (s : State) (e : Reject) : (s.reject e).mc = s.mc := rfl
@[simp] theorem State.reject_hb1 (s : State) (e : Reject) : (s.reject e).hb1 = s.hb1 := rfl
@[simp] theorem State.reject_hb2 (s : State) (e : Reject) : (s.reject e).hb2 = s.hb2 := rfl
@[simp] theorem State.reject_temp (s : State) (e : Reject) : (s.reject e).temp = s.temp := rfl
@[simp] theorem State.reject_resp (s : State) (e : Reject) : (s.reject e).resp = ⟨true, rejectCode e, 0⟩ := rfl
@[simp] theorem State.reject_agenda (s : State) (e : Reject) : (s.reject e).agenda = s.agenda := rfl
@[simp] theorem State.reject_env (s : State) (e : Reject) : (s.reject e).env = s.env := rfl

/-- Reading a source after a write: the written value at that source, the old one at every other. -/
@[simp] theorem PerSrc.get_set {α : Type} (p : PerSrc α) (x y : Src) (a : α) :
    (p.set x a).get y = if x = y then a else p.get y := by
  cases x <;> cases y <;> rfl

@[simp] theorem PerSrc.get_set_self {α : Type} (p : PerSrc α) (x : Src) (a : α) : (p.set x a).get x = a := by
  cases x <;> rfl

/-- Two families are equal if every source has the same value. -/
theorem PerSrc.ext_get {α : Type} {p q : PerSrc α} (h : ∀ x, p.get x = q.get x) : p = q := by
  cases p; cases q
  simp only [PerSrc.mk.injEq]
  exact ⟨h .t0Cmp, h .t0Ovf, h .t1CmpA, h .t1CmpB, h .t1Capt, h .t1Ovf, h .t2Cmp, h .t2Ovf, h .int0, h .int1, h .int2⟩

@[simp] theorem PerSrc.set_set {α : Type} (p : PerSrc α) (x : Src) (a b : α) : (p.set x a).set x b = p.set x b := by
  cases x <;> rfl

/-- Writing what is there already changes nothing. -/
@[simp] theorem PerSrc.set_get_self {α : Type} (p : PerSrc α) (x : Src) : p.set x (p.get x) = p := by
  cases x <;> rfl

@[simp] theorem PerSrc.get_const {α : Type} (a : α) (x : Src) : (perSrcConst a).get x = a := by
  cases x <;> rfl

@[simp] theorem PerLine.get_set {α : Type} (p : PerLine α) (i j : Line) (a : α) :
    (p.set i a).get j = if i = j then a else p.get j := by
  cases i <;> cases j <;> rfl

@[simp] theorem PerLine.set_set {α : Type} (p : PerLine α) (i : Line) (a b : α) : (p.set i a).set i b = p.set i b := by
  cases i <;> rfl

theorem PerLine.ext_get {α : Type} {p q : PerLine α} (h : ∀ i, p.get i = q.get i) : p = q := by
  cases p; cases q
  simp only [PerLine.mk.injEq]
  exact ⟨h .int0, h .int1, h .int2⟩

/-- No two sources share an id (60_exceptions.md R322). -/
theorem srcId_injective : ∀ x y : Src, srcId x = srcId y → x = y := by
  intro x y h; cases x <;> cases y <;> first | rfl | exact absurd h (by decide)

/-- Every source is visited by the dispatch order. -/
theorem mem_srcsInOrder (x : Src) : x ∈ srcsInOrder := by cases x <;> decide

@[simp] theorem lineSrc_inj (i j : Line) : lineSrc i = lineSrc j ↔ i = j := by
  cases i <;> cases j <;> decide

/-- A line's source is no timer's source. -/
@[simp] theorem lineSrc_ne_t2Ovf (i : Line) : lineSrc i ≠ .t2Ovf := by cases i <;> decide

@[simp] theorem echoSrc_ne_t2Ovf (P : Params) : echoSrc P ≠ .t2Ovf := lineSrc_ne_t2Ovf _

end Sys2Proof.Machine
end

