-- ==== Sys2Proof/Laws/Ops.lean ====
section
/-! SUPPORT. What a command's checks and its response can do, and the codes of the operands: each code selects what it is the
code of, and only the codes the spec calls illegal select nothing. -/

namespace Sys2Proof.Machine

@[simp] theorem withOperand_none {α : Type} (e : Reject) (s : State) (k : α → Result) :
    withOperand none e s k = rejected e s := rfl

@[simp] theorem withOperand_some {α : Type} (a : α) (e : Reject) (s : State) (k : α → Result) :
    withOperand (some a) e s k = k a := rfl

@[simp] theorem require_true (e : Reject) (s : State) (k : Result) : require true e s k = k := rfl

@[simp] theorem require_false (e : Reject) (s : State) (k : Result) : require false e s k = rejected e s := rfl

/-- What a field check can do: go on with the operand, or reject. -/
theorem withOperand_cases {α : Type} (o : Option α) (e : Reject) (s : State) (k : α → Result) :
    (∃ a, o = some a ∧ withOperand o e s k = k a) ∨ (o = none ∧ withOperand o e s k = rejected e s) := by
  cases o with
  | none => exact .inr ⟨rfl, rfl⟩
  | some a => exact .inl ⟨a, rfl, rfl⟩

/-- What a value check can do: go on, or reject. -/
theorem require_cases (ok : Bool) (e : Reject) (s : State) (k : Result) :
    (ok = true ∧ require ok e s k = k) ∨ (ok = false ∧ require ok e s k = rejected e s) := by
  cases ok
  · exact .inr ⟨rfl, rfl⟩
  · exact .inl ⟨rfl, rfl⟩

/-- An accepted command answers its state with the response, and nothing else changed by the response. -/
theorem accepted_eq_next {d : Word} {s t : State} (h : accepted d s = .next t) : t = s.respond d := by
  simpa [accepted] using h.symm

/-- A rejected command answers the state it began in, but for RESP. -/
theorem rejected_eq_next {e : Reject} {s t : State} (h : rejected e s = .next t) : t = s.reject e := by
  simpa [rejected] using h.symm

@[simp] theorem mode8Of_code (m : Mode8) : mode8Of (mode8Code m) = some m := by cases m <;> rfl

@[simp] theorem mode16Of_code (m : Mode16) : mode16Of (mode16Code m) = m := by cases m <;> rfl

@[simp] theorem clockSelOf_code (c : ClockSel) : clockSelOf (clockSelCode c) = some c := by
  cases c with
  | stop => rfl
  | run d => cases d <;> rfl

@[simp] theorem comOf_code (c : Com) : comOf (comCode c) = c := by cases c <;> rfl

@[simp] theorem srcOf_id (x : Src) : srcOf (BitVec.ofNat 5 (srcId x)) = some x := by cases x <;> rfl

@[simp] theorem hbCodeOf_code (m : HbCode) : hbCodeOf (hbCodeCode m) = some m := by cases m <;> rfl

@[simp] theorem actionOf_code (a : Action) : actionOf (actionCode a) = some a := by
  cases a with
  | hb m1 m2 => cases m1 <;> cases m2 <;> rfl
  | null => rfl
  | hostIrq => rfl
  | echoEdge => rfl
  | echoOvf => rfl

@[simp] theorem senseOf_code (m : Sense) : senseOf (senseCode m) = m := by cases m <;> rfl

@[simp] theorem directionOf_code (d : Direction) : directionOf (directionCode d) = d := by cases d <;> rfl

/-- TMR = 3 is the one code that selects no timer (30_encoding.md R103). -/
theorem timerOf_eq_none_iff : ∀ tmr : BitVec 2, timerOf tmr = none ↔ tmr = 3 := by decide

/-- CS = 6 and 7 are the codes that select no clock (R106). -/
theorem clockSelOf_eq_none_iff : ∀ cs : BitVec 3, clockSelOf cs = none ↔ 5 < cs.toNat := by decide

/-- SRC = 11 to 31 are the codes that select no source (R109). -/
theorem srcOf_eq_none_iff : ∀ src : BitVec 5, srcOf src = none ↔ 10 < src.toNat := by decide

/-- LINE = 3 is the one code that selects no line (R111). -/
theorem lineOf_eq_none_iff : ∀ line : BitVec 2, lineOf line = none ↔ line = 3 := by decide

/-- The codes 5 to 7 select no H-bridge pattern (R113). -/
theorem hbCodeOf_eq_none_iff : ∀ m : BitVec 3, hbCodeOf m = none ↔ 4 < m.toNat := by decide

end Sys2Proof.Machine
end

