-- ==== Sys2Proof/Laws/Timer.lean ====
section
/-! SUPPORT. What the timers' clocked operation and the timer procedures change, field by field. -/

namespace Sys2Proof.Machine

@[simp] theorem clock8_mode (t : Timer8) : (clock8 t).mode = t.mode := by unfold clock8 tick8; dsimp only; split <;> rfl
@[simp] theorem clock8_cs (t : Timer8) : (clock8 t).cs = t.cs := by unfold clock8 tick8; dsimp only; split <;> rfl
@[simp] theorem clock8_ocra (t : Timer8) : (clock8 t).ocra = t.ocra := by unfold clock8 tick8; dsimp only; split <;> rfl
@[simp] theorem clock8_coma (t : Timer8) : (clock8 t).coma = t.coma := by unfold clock8 tick8; dsimp only; split <;> rfl
@[simp] theorem clock8_psc (t : Timer8) : (clock8 t).psc = prescalerNext t.cs t.psc := by
  unfold clock8 tick8; dsimp only; split <;> rfl

/-- A cycle without a tick leaves the counter; a cycle with one wraps it or counts it up (40_timer.md R150, R151). -/
theorem clock8_cnt (t : Timer8) :
    (clock8 t).cnt = if prescalerTicks t.cs t.psc then (if wraps t.cnt (top8 t) then 0 else t.cnt + 1) else t.cnt := by
  unfold clock8 tick8; dsimp only; split <;> rfl

@[simp] theorem clock16_mode (t : Timer16) : (clock16 t).mode = t.mode := by unfold clock16 tick16; dsimp only; split <;> rfl
@[simp] theorem clock16_cs (t : Timer16) : (clock16 t).cs = t.cs := by unfold clock16 tick16; dsimp only; split <;> rfl
@[simp] theorem clock16_ocra (t : Timer16) : (clock16 t).ocra = t.ocra := by unfold clock16 tick16; dsimp only; split <;> rfl
@[simp] theorem clock16_ocrb (t : Timer16) : (clock16 t).ocrb = t.ocrb := by unfold clock16 tick16; dsimp only; split <;> rfl
@[simp] theorem clock16_icr (t : Timer16) : (clock16 t).icr = t.icr := by unfold clock16 tick16; dsimp only; split <;> rfl
@[simp] theorem clock16_coma (t : Timer16) : (clock16 t).coma = t.coma := by unfold clock16 tick16; dsimp only; split <;> rfl
@[simp] theorem clock16_comb (t : Timer16) : (clock16 t).comb = t.comb := by unfold clock16 tick16; dsimp only; split <;> rfl
@[simp] theorem clock16_psc (t : Timer16) : (clock16 t).psc = prescalerNext t.cs t.psc := by
  unfold clock16 tick16; dsimp only; split <;> rfl

/-- A cycle without a tick leaves T1's counter; a cycle with one wraps it or counts it up (R150, R151). -/
theorem clock16_cnt (t : Timer16) :
    (clock16 t).cnt = if prescalerTicks t.cs t.psc then (if wraps t.cnt (top16 t) then 0 else t.cnt + 1) else t.cnt := by
  unfold clock16 tick16; dsimp only; split <;> rfl

/-- The TICK phase clocks the three timers and sets flags; it writes nothing else. -/
theorem tickPhase_eq (s : State) :
    tickPhase s = { s with t0 := clock8 s.t0, t1 := clock16 s.t1, t2 := clock8 s.t2, flag := (tickPhase s).flag } := rfl

@[simp] theorem tickPhase_t0 (s : State) : (tickPhase s).t0 = clock8 s.t0 := rfl
@[simp] theorem tickPhase_t1 (s : State) : (tickPhase s).t1 = clock16 s.t1 := rfl
@[simp] theorem tickPhase_t2 (s : State) : (tickPhase s).t2 = clock8 s.t2 := rfl
@[simp] theorem tickPhase_en (s : State) : (tickPhase s).en = s.en := rfl
@[simp] theorem tickPhase_slot (s : State) : (tickPhase s).slot = s.slot := rfl
@[simp] theorem tickPhase_irqp (s : State) : (tickPhase s).irqp = s.irqp := rfl
@[simp] theorem tickPhase_gie (s : State) : (tickPhase s).gie = s.gie := rfl
@[simp] theorem tickPhase_line (s : State) : (tickPhase s).line = s.line := rfl
@[simp] theorem tickPhase_us (s : State) : (tickPhase s).us = s.us := rfl
@[simp] theorem tickPhase_mc (s : State) : (tickPhase s).mc = s.mc := rfl
@[simp] theorem tickPhase_hb1 (s : State) : (tickPhase s).hb1 = s.hb1 := rfl
@[simp] theorem tickPhase_hb2 (s : State) : (tickPhase s).hb2 = s.hb2 := rfl
@[simp] theorem tickPhase_temp (s : State) : (tickPhase s).temp = s.temp := rfl
@[simp] theorem tickPhase_resp (s : State) : (tickPhase s).resp = s.resp := rfl
@[simp] theorem tickPhase_agenda (s : State) : (tickPhase s).agenda = s.agenda := rfl
@[simp] theorem tickPhase_env (s : State) : (tickPhase s).env = s.env := rfl

/-- The TICK phase never clears a flag. -/
theorem tickPhase_keeps_flag (s : State) (x : Src) (h : s.flag.get x = true) : (tickPhase s).flag.get x = true := by
  cases x <;> simp_all [tickPhase, PerSrc.get]

/-- The TICK phase leaves the flags of the external lines. -/
@[simp] theorem tickPhase_flag_line (s : State) (i : Line) :
    (tickPhase s).flag.get (lineSrc i) = s.flag.get (lineSrc i) := by
  cases i <;> rfl

/-- What TINIT_SEQ can do: write MODE, CS, CNT and PSC of the one timer (40_timer.md R131). -/
theorem tinitSeq_cases (m : TimerMode) (cs : ClockSel) (s : State) :
    (∃ m', m = .t0 m' ∧ tinitSeq m cs s = { s with t0 := { s.t0 with mode := m', cs := cs, cnt := 0, psc := 0 } }) ∨
    (∃ m', m = .t1 m' ∧ tinitSeq m cs s = { s with t1 := { s.t1 with mode := m', cs := cs, cnt := 0, psc := 0 } }) ∨
    (∃ m', m = .t2 m' ∧ tinitSeq m cs s = { s with t2 := { s.t2 with mode := m', cs := cs, cnt := 0, psc := 0 } }) := by
  cases m with
  | t0 m' => exact .inl ⟨m', rfl, rfl⟩
  | t1 m' => exact .inr (.inl ⟨m', rfl, rfl⟩)
  | t2 m' => exact .inr (.inr ⟨m', rfl, rfl⟩)

/-- The timer procedures write timers only. -/
theorem tinitSeq_frame (m : TimerMode) (cs : ClockSel) (s : State) :
    tinitSeq m cs s = { s with t0 := (tinitSeq m cs s).t0, t1 := (tinitSeq m cs s).t1, t2 := (tinitSeq m cs s).t2 } := by
  cases m <;> rfl

theorem stopTimer_frame (n : TimerId) (s : State) :
    stopTimer n s = { s with t0 := (stopTimer n s).t0, t1 := (stopTimer n s).t1, t2 := (stopTimer n s).t2 } := by
  cases n <;> rfl

theorem setCounter_frame (n : TimerId) (v : BitVec 16) (s : State) :
    setCounter n v s = { s with t0 := (setCounter n v s).t0, t1 := (setCounter n v s).t1, t2 := (setCounter n v s).t2 } := by
  cases n <;> rfl

theorem setCompare_frame (c : Channel) (v : BitVec 16) (s : State) :
    setCompare c v s = { s with t0 := (setCompare c v s).t0, t1 := (setCompare c v s).t1, t2 := (setCompare c v s).t2 } := by
  cases c <;> rfl

theorem setCom_frame (c : Channel) (com : Com) (s : State) :
    setCom c com s = { s with t0 := (setCom c com s).t0, t1 := (setCom c com s).t1, t2 := (setCom c com s).t2 } := by
  cases c <;> rfl

/-- PSC stays a value the divisor allows, or returns to 0 (40_timer.md R150, R160). -/
theorem prescalerNext_le (d : ClockDiv) (psc : BitVec 10) : (prescalerNext (.run d) psc).toNat ≤ divisor d - 1 := by
  unfold prescalerNext
  dsimp only
  split
  · simp
  · have h := Nat.mod_le (psc.toNat + 1) (2 ^ 10)
    have h1 : (1 : BitVec 10).toNat = 1 := rfl
    rw [BitVec.toNat_add, h1]
    omega

end Sys2Proof.Machine
end

