-- ==== Sys2Proof/Laws/Clock.lean ====
section
/-! SUPPORT. What each phase of a CLOCK step can change, the induction over a DISPATCH phase, and what a whole cycle leaves
alone. -/

namespace Sys2Proof.Machine

/-- What the PULSE phase can do (43_ultrasonic.md R230): nothing, count down, or end the pulse. -/
theorem pulsePhase_cases (P : Params) (s : State) :
    (s.us.pcnt = 0 ∧ pulsePhase P s = s) ∨
    (s.us.pcnt ≠ 0 ∧ s.us.pcnt - 1 ≠ 0 ∧ pulsePhase P s = { s with us := { s.us with pcnt := s.us.pcnt - 1 } }) ∨
    (s.us.pcnt ≠ 0 ∧ s.us.pcnt - 1 = 0 ∧
      pulsePhase P s = pulseEnd P { s with us := { s.us with pcnt := s.us.pcnt - 1 } }) := by
  unfold pulsePhase
  by_cases h : s.us.pcnt = 0
  · exact .inl ⟨h, by simp [h]⟩
  · by_cases h' : s.us.pcnt - 1 = 0
    · exact .inr (.inr ⟨h, h', by rw [if_neg h]; exact if_pos h'⟩)
    · exact .inr (.inl ⟨h, h', by rw [if_neg h]; exact if_neg h'⟩)

/-- PULSE_END writes RT, the session's fields, two flags and one enable, and nothing else (R231). -/
theorem pulseEnd_eq (P : Params) (s : State) :
    pulseEnd P s =
      { s with
        us   := { s.us with trig := false, exp := .rising, ovf := 0 }
        t2   := { s.t2 with mode := .normal, cs := .run P.rangingCs, cnt := 0, psc := 0 }
        flag := (s.flag.set .t2Ovf false).set (echoSrc P) false
        en   := s.en.set .t2Ovf true } := rfl

/-- The SAMPLE phase writes the lines' last samples and the lines' flags, and nothing else (42_exti.md R205). -/
theorem samplePhase_eq (p : Pins) (s : State) :
    samplePhase p s =
      { s with
        line := ⟨⟨s.line.int0.sense, p.int0⟩, ⟨s.line.int1.sense, p.int1⟩, ⟨s.line.int2.sense, p.int2⟩⟩
        flag := { s.flag with
          int0 := s.flag.int0 || lineEvent s.line.int0 p.int0
          int1 := s.flag.int1 || lineEvent s.line.int1 p.int1
          int2 := s.flag.int2 || lineEvent s.line.int2 p.int2 } } := rfl

/-- What an action can do (41_events.md R188): set its own IRQP bit, run an echo action, or write the H-bridge channels. -/
theorem runAction_cases (P : Params) (a : Action) (x : Src) (s : State) :
    runAction P a x s = s ∨ runAction P a x s = s.setIrqp x true ∨ (a = .echoEdge ∧ runAction P a x s = echoEdge s) ∨
    (a = .echoOvf ∧ runAction P a x s = echoOvf P s) ∨ (∃ m1 m2, a = .hb m1 m2 ∧ runAction P a x s = hbAction m1 m2 s) := by
  cases a with
  | null => exact .inl rfl
  | hostIrq => exact .inr (.inl rfl)
  | echoEdge => exact .inr (.inr (.inl ⟨rfl, rfl⟩))
  | echoOvf => exact .inr (.inr (.inr (.inl ⟨rfl, rfl⟩)))
  | hb m1 m2 => exact .inr (.inr (.inr (.inr ⟨m1, m2, rfl, rfl⟩)))

/-- What ECHO_EDGE can do (43_ultrasonic.md R235 to R237). -/
theorem echoEdge_cases (s : State) :
    (sessionGate s.us = false ∧ echoEdge s = s) ∨
    (sessionGate s.us = true ∧ s.us.exp = .rising ∧ echoEdge s = echoRise s) ∨
    (sessionGate s.us = true ∧ s.us.exp = .falling ∧ echoEdge s = echoFall s) := by
  unfold echoEdge
  cases hg : sessionGate s.us
  · exact .inl ⟨rfl, rfl⟩
  · cases he : s.us.exp
    · exact .inr (.inl ⟨rfl, rfl, rfl⟩)
    · exact .inr (.inr ⟨rfl, rfl, rfl⟩)

/-- What ECHO_OVF can do (R238 to R240). -/
theorem echoOvf_cases (P : Params) (s : State) :
    (sessionGate s.us = false ∧ echoOvf P s = s) ∨
    (sessionGate s.us = true ∧ P.maxOvf.val < s.us.ovf.toNat + 1 ∧ echoOvf P s = timeout s) ∨
    (sessionGate s.us = true ∧ s.us.ovf.toNat + 1 ≤ P.maxOvf.val ∧
      echoOvf P s = { s with us := { s.us with ovf := s.us.ovf + 1 } }) := by
  unfold echoOvf
  cases hg : sessionGate s.us
  · exact .inl ⟨rfl, rfl⟩
  · by_cases h : s.us.ovf.toNat + 1 > P.maxOvf.val
    · exact .inr (.inl ⟨rfl, h, by simp [h]⟩)
    · exact .inr (.inr ⟨rfl, by omega, by simp [h]⟩)

/-- `u` differs from `s` at most in what a dispatch may write: RT, FLAG, EN, IRQP, US, HB1 and HB2 (60_exceptions.md R327). -/
structure DispatchFrame (s u : State) : Prop where
  t0     : u.t0 = s.t0
  t1     : u.t1 = s.t1
  slot   : u.slot = s.slot
  gie    : u.gie = s.gie
  line   : u.line = s.line
  mc     : u.mc = s.mc
  temp   : u.temp = s.temp
  resp   : u.resp = s.resp
  agenda : u.agenda = s.agenda
  env    : u.env = s.env

theorem DispatchFrame.rfl' (s : State) : DispatchFrame s s :=
  ⟨rfl, rfl, rfl, rfl, rfl, rfl, rfl, rfl, rfl, rfl⟩

theorem DispatchFrame.trans' {s u v : State} (h : DispatchFrame s u) (h' : DispatchFrame u v) : DispatchFrame s v :=
  ⟨h'.t0.trans h.t0, h'.t1.trans h.t1, h'.slot.trans h.slot, h'.gie.trans h.gie, h'.line.trans h.line, h'.mc.trans h.mc,
    h'.temp.trans h.temp, h'.resp.trans h.resp, h'.agenda.trans h.agenda, h'.env.trans h.env⟩

/-- The fields no action writes. -/
theorem runAction_frame (P : Params) (a : Action) (x : Src) (s : State) : DispatchFrame s (runAction P a x s) := by
  rcases runAction_cases P a x s with h | h | ⟨-, h⟩ | ⟨-, h⟩ | ⟨m1, m2, -, h⟩ <;> rw [h]
  · exact .rfl' s
  · exact ⟨rfl, rfl, rfl, rfl, rfl, rfl, rfl, rfl, rfl, rfl⟩
  · rcases echoEdge_cases s with ⟨-, h'⟩ | ⟨-, -, h'⟩ | ⟨-, -, h'⟩ <;>
      (rw [h']; exact ⟨rfl, rfl, rfl, rfl, rfl, rfl, rfl, rfl, rfl, rfl⟩)
  · rcases echoOvf_cases P s with ⟨-, h'⟩ | ⟨-, -, h'⟩ | ⟨-, -, h'⟩ <;>
      (rw [h']; exact ⟨rfl, rfl, rfl, rfl, rfl, rfl, rfl, rfl, rfl, rfl⟩)
  · exact ⟨rfl, rfl, rfl, rfl, rfl, rfl, rfl, rfl, rfl, rfl⟩

/-- No action writes a flag (41_events.md R189). -/
@[simp] theorem runAction_flag (P : Params) (a : Action) (x : Src) (s : State) : (runAction P a x s).flag = s.flag := by
  rcases runAction_cases P a x s with h | h | ⟨-, h⟩ | ⟨-, h⟩ | ⟨m1, m2, -, h⟩ <;> rw [h]
  · rfl
  · rcases echoEdge_cases s with ⟨-, h'⟩ | ⟨-, -, h'⟩ | ⟨-, -, h'⟩ <;> rw [h'] <;> rfl
  · rcases echoOvf_cases P s with ⟨-, h'⟩ | ⟨-, -, h'⟩ | ⟨-, -, h'⟩ <;> rw [h']
    rfl
  · rfl

/-- No action enables a source; ECHO_EDGE and ECHO_OVF may disable RT_OVF (R189). -/
theorem runAction_en (P : Params) (a : Action) (x : Src) (s : State) :
    (runAction P a x s).en = s.en ∨ (runAction P a x s).en = s.en.set .t2Ovf false := by
  rcases runAction_cases P a x s with h | h | ⟨-, h⟩ | ⟨-, h⟩ | ⟨m1, m2, -, h⟩ <;> rw [h]
  · exact .inl rfl
  · exact .inl rfl
  · rcases echoEdge_cases s with ⟨-, h'⟩ | ⟨-, -, h'⟩ | ⟨-, -, h'⟩ <;> rw [h']
    · exact .inl rfl
    · exact .inl rfl
    · exact .inr rfl
  · rcases echoOvf_cases P s with ⟨-, h'⟩ | ⟨-, -, h'⟩ | ⟨-, -, h'⟩ <;> rw [h']
    · exact .inl rfl
    · exact .inr rfl
    · exact .inl rfl
  · exact .inl rfl

/-- What the visit of a source can do (R326): nothing, or clear its flag and run its slot. -/
theorem dispatchSource_cases (P : Params) (s : State) (x : Src) :
    (s.ready x = false ∧ dispatchSource P s x = s) ∨
    (s.ready x = true ∧ dispatchSource P s x = runAction P (s.slot.get x) x (s.setFlag x false)) := by
  unfold dispatchSource
  cases h : s.ready x
  · exact .inl ⟨rfl, rfl⟩
  · exact .inr ⟨rfl, rfl⟩

/-- The fields no visit of a source writes. -/
theorem dispatchSource_frame (P : Params) (s : State) (x : Src) : DispatchFrame s (dispatchSource P s x) := by
  rcases dispatchSource_cases P s x with ⟨-, h⟩ | ⟨-, h⟩ <;> rw [h]
  · exact .rfl' s
  · have h0 : DispatchFrame s (s.setFlag x false) := ⟨rfl, rfl, rfl, rfl, rfl, rfl, rfl, rfl, rfl, rfl⟩
    exact h0.trans' (runAction_frame P _ x _)

/-- Induction over a DISPATCH phase: a property that every visit of a source keeps holds after the phase. -/
theorem dispatchPhase_induct (P : Params) (Q : State → Prop) {s : State} (h0 : Q s)
    (hstep : ∀ s x, Q s → Q (dispatchSource P s x)) : Q (dispatchPhase P s) := by
  unfold dispatchPhase
  split
  case isTrue =>
    clear * - h0 hstep
    generalize srcsInOrder = l
    induction l generalizing s with
    | nil => exact h0
    | cons x l ih => exact ih (hstep s x h0)
  case isFalse => exact h0

/-- With GIE = 0 a cycle has no dispatch (60_exceptions.md R326). -/
theorem dispatchPhase_of_gie_false (P : Params) {s : State} (h : s.gie = false) : dispatchPhase P s = s := by
  simp [dispatchPhase, h]

/-- An action makes no source ready: it sets no flag and no enable (41_events.md R189). -/
theorem runAction_ready_false (P : Params) (a : Action) (x y : Src) {s : State} (h : s.ready y = false) :
    (runAction P a x s).ready y = false := by
  have hen := runAction_en P a x s
  simp only [State.ready, runAction_flag] at *
  rcases hen with e | e <;> rw [e]
  · exact h
  · rw [PerSrc.get_set]
    split
    · exact Bool.and_false _
    · exact h

/-- The visit of a source leaves that source not ready, and makes no other source ready. -/
theorem dispatchSource_ready_false (P : Params) (x y : Src) {s : State} (h : y = x ∨ s.ready y = false) :
    (dispatchSource P s x).ready y = false := by
  rcases dispatchSource_cases P s x with ⟨h0, e⟩ | ⟨-, e⟩ <;> rw [e]
  · rcases h with rfl | h
    · exact h0
    · exact h
  · apply runAction_ready_false
    rcases h with rfl | h
    · simp [State.ready]
    · by_cases hx : y = x
      · subst hx; simp [State.ready]
      · simpa [State.ready, PerSrc.get_set, Ne.symm hx] using h

/-- The visits of sources that are not ready change nothing. -/
theorem foldl_dispatchSource_of_not_ready (P : Params) {s : State} {l : List Src} (h : ∀ x ∈ l, s.ready x = false) :
    l.foldl (dispatchSource P) s = s := by
  induction l with
  | nil => rfl
  | cons x l ih =>
    have hx : dispatchSource P s x = s := by simp [dispatchSource, h x (by simp)]
    rw [List.foldl_cons, hx]
    exact ih fun y hy => h y (by simp [hy])

/-- With no source ready a DISPATCH phase does nothing (R326). -/
theorem dispatchPhase_of_not_ready (P : Params) {s : State} (h : ∀ x, s.ready x = false) : dispatchPhase P s = s := by
  unfold dispatchPhase
  rw [foldl_dispatchSource_of_not_ready P fun x _ => h x, ite_self]

/-- An action that is no echo action leaves the session, RT and the enables alone (R188, R191, 44_motor_pwm.md R261). -/
theorem runAction_of_not_echo (P : Params) {a : Action} (x : Src) (s : State) (h : a ≠ .echoEdge ∧ a ≠ .echoOvf) :
    (runAction P a x s).us = s.us ∧ (runAction P a x s).t2 = s.t2 ∧ (runAction P a x s).en = s.en := by
  cases a with
  | null => exact ⟨rfl, rfl, rfl⟩
  | hostIrq => exact ⟨rfl, rfl, rfl⟩
  | echoEdge => exact absurd rfl h.1
  | echoOvf => exact absurd rfl h.2
  | hb m1 m2 => exact ⟨rfl, rfl, rfl⟩

/-- An action that is no HB action leaves both channels alone (R188, R191, 43_ultrasonic.md R235 to R240). -/
theorem runAction_of_not_hb (P : Params) {a : Action} (x : Src) (s : State) (h : ∀ m1 m2, a ≠ .hb m1 m2) :
    (runAction P a x s).hb1 = s.hb1 ∧ (runAction P a x s).hb2 = s.hb2 := by
  rcases runAction_cases P a x s with e | e | ⟨-, e⟩ | ⟨-, e⟩ | ⟨m1, m2, ha, -⟩
  · rw [e]; exact ⟨rfl, rfl⟩
  · rw [e]; exact ⟨rfl, rfl⟩
  · rw [e]; rcases echoEdge_cases s with ⟨-, e'⟩ | ⟨-, -, e'⟩ | ⟨-, -, e'⟩ <;> rw [e'] <;> exact ⟨rfl, rfl⟩
  · rw [e]; rcases echoOvf_cases P s with ⟨-, e'⟩ | ⟨-, -, e'⟩ | ⟨-, -, e'⟩ <;> rw [e'] <;> exact ⟨rfl, rfl⟩
  · exact absurd ha (h m1 m2)

/-- The visit of a source that is not ready, or runs no echo action, leaves the session, RT, the enables and every other source's
flag alone. -/
theorem dispatchSource_of_not_echo (P : Params) (s : State) (x : Src)
    (h : s.ready x = true → s.slot.get x ≠ .echoEdge ∧ s.slot.get x ≠ .echoOvf) :
    (dispatchSource P s x).us = s.us ∧ (dispatchSource P s x).t2 = s.t2 ∧ (dispatchSource P s x).en = s.en ∧
    ∀ y, y ≠ x → (dispatchSource P s x).flag.get y = s.flag.get y := by
  rcases dispatchSource_cases P s x with ⟨-, e⟩ | ⟨hr, e⟩ <;> rw [e]
  · exact ⟨rfl, rfl, rfl, fun _ _ => rfl⟩
  · obtain ⟨h1, h2, h3⟩ := runAction_of_not_echo P x (s.setFlag x false) (h hr)
    exact ⟨h1, h2, h3, fun y hy => by simp [Ne.symm hy]⟩

/-- The fields no DISPATCH phase writes. -/
theorem dispatchPhase_frame (P : Params) (s : State) : DispatchFrame s (dispatchPhase P s) :=
  dispatchPhase_induct P (DispatchFrame s) (.rfl' s) fun u x hu => hu.trans' (dispatchSource_frame P u x)

@[simp] theorem clockCycles_zero (P : Params) (s : State) : clockCycles P 0 s = s := rfl

theorem clockCycles_succ (P : Params) (k : Nat) (s : State) : clockCycles P (k + 1) s = clockCycles P k (clockCycle P s) := rfl

theorem clockCycles_succ' (P : Params) (k : Nat) (s : State) : clockCycles P (k + 1) s = clockCycle P (clockCycles P k s) := by
  induction k generalizing s with
  | zero => rfl
  | succ k ih => rw [clockCycles_succ, ih, ← clockCycles_succ]

end Sys2Proof.Machine
end

