-- ==== Sys2Proof/Laws/Motor.lean ====
section
/-! SUPPORT. What the procedures of the motor controller change, written out field by field (44_motor_pwm.md R261, R265, R266). -/

namespace Sys2Proof.Machine

/-- The PWM start of T0 writes T0, two slots, two flags and two enables, and nothing else (R265). -/
theorem startPwmT0_eq (P : Params) (p : BitVec 7) (a b : Action) (s : State) :
    startPwmT0 P p a b s =
      { s with
        t0   := { s.t0 with mode := .fastPwm, cs := .run P.pwmCs, cnt := 0, psc := 0, ocra := duty p }
        slot := { s.slot with t0Cmp := a, t0Ovf := b }
        flag := { s.flag with t0Cmp := false, t0Ovf := false }
        en   := { s.en with t0Cmp := true, t0Ovf := true } } := rfl

/-- The PWM start of T1 writes T1, two slots, two flags and two enables, and nothing else (R265). -/
theorem startPwmT1_eq (P : Params) (p : BitVec 7) (a b : Action) (s : State) :
    startPwmT1 P p a b s =
      { s with
        t1   := { s.t1 with
          mode := .fastPwmIcr, cs := .run P.pwmCs, cnt := 0, psc := 0, icr := 255, ocra := (duty p).setWidth 16 }
        slot := { s.slot with t1CmpA := a, t1Capt := b }
        flag := { s.flag with t1CmpA := false, t1Capt := false }
        en   := { s.en with t1CmpA := true, t1Capt := true } } := rfl

/-- MSTOP_SEQ in SAME_SPEED leaves T1 and its events alone (R266). -/
theorem mstopSeq_same {s : State} (h : s.mc.smode = .same) :
    mstopSeq s =
      { s with
        t0  := { s.t0 with cs := .stop }
        en  := { s.en with t0Cmp := false, t0Ovf := false }
        hb1 := ⟨true, false, false⟩, hb2 := ⟨true, false, false⟩
        mc  := { s.mc with active := false } } := by
  simp [mstopSeq, stopTimer, hbAction, applyCode, State.setEn, PerSrc.set, h]

/-- MSTOP_SEQ in DIFFERENT_SPEEDS stops both motor timers (R266). -/
theorem mstopSeq_different {s : State} (h : s.mc.smode = .different) :
    mstopSeq s =
      { s with
        t0  := { s.t0 with cs := .stop }
        t1  := { s.t1 with cs := .stop }
        en  := { s.en with t0Cmp := false, t0Ovf := false, t1CmpA := false, t1Capt := false }
        hb1 := ⟨true, false, false⟩, hb2 := ⟨true, false, false⟩
        mc  := { s.mc with active := false } } := by
  simp [mstopSeq, stopTimer, hbAction, applyCode, State.setEn, PerSrc.set, h]

/-- What MSTOP_SEQ leaves alone in either mode (R266). -/
theorem mstopSeq_frame (s : State) :
    mstopSeq s =
      { s with
        t0 := (mstopSeq s).t0, t1 := (mstopSeq s).t1, en := (mstopSeq s).en, hb1 := (mstopSeq s).hb1, hb2 := (mstopSeq s).hb2
        mc := { s.mc with active := false } } := by
  cases h : s.mc.smode
  · rw [mstopSeq_same h]
  · rw [mstopSeq_different h]

/-- What `PWM_START` in SAME_SPEED can do (R265): nothing at 0 %, or start T0 and drive both channels. -/
theorem pwmStartSame_cases (P : Params) (s : State) :
    (s.mc.p1.toNat = 0 ∧ pwmStartSame P s = s) ∨
    (0 < s.mc.p1.toNat ∧
      pwmStartSame P s =
        { startPwmT0 P s.mc.p1 (.hb .fastStop .fastStop) (.hb (drive1 s.mc.dir) (drive2 s.mc.dir)) s with
          hb1 := applyCode (drive1 s.mc.dir) s.hb1, hb2 := applyCode (drive2 s.mc.dir) s.hb2 }) := by
  unfold pwmStartSame
  by_cases h : 0 < s.mc.p1.toNat
  · exact .inr ⟨h, by simp only [h, if_true]; rfl⟩
  · exact .inl ⟨by omega, by simp only [h, if_false]⟩

/-- What motor 1's part of `PWM_START` can do (R265): nothing at 0 %, or start T1 and drive channel 1. -/
theorem pwmStartMotor1_cases (P : Params) (s : State) :
    (s.mc.p1.toNat = 0 ∧ pwmStartMotor1 P s = s) ∨
    (0 < s.mc.p1.toNat ∧
      pwmStartMotor1 P s =
        { startPwmT1 P s.mc.p1 (.hb .fastStop .keep) (.hb (drive1 s.mc.dir) .keep) s with
          hb1 := applyCode (drive1 s.mc.dir) s.hb1 }) := by
  unfold pwmStartMotor1
  by_cases h : 0 < s.mc.p1.toNat
  · exact .inr ⟨h, by simp only [h, if_true]; rfl⟩
  · exact .inl ⟨by omega, by simp only [h, if_false]⟩

/-- What motor 2's part of `PWM_START` can do (R265): nothing at 0 %, or start T0 and drive channel 2. -/
theorem pwmStartMotor2_cases (P : Params) (s : State) :
    (s.mc.p2.toNat = 0 ∧ pwmStartMotor2 P s = s) ∨
    (0 < s.mc.p2.toNat ∧
      pwmStartMotor2 P s =
        { startPwmT0 P s.mc.p2 (.hb .keep .fastStop) (.hb .keep (drive2 s.mc.dir)) s with
          hb2 := applyCode (drive2 s.mc.dir) s.hb2 }) := by
  unfold pwmStartMotor2
  by_cases h : 0 < s.mc.p2.toNat
  · exact .inr ⟨h, by simp only [h, if_true]; rfl⟩
  · exact .inl ⟨by omega, by simp only [h, if_false]⟩

/-- What `PWM_START` leaves alone in either mode (R265). -/
theorem pwmStart_frame (P : Params) (s : State) :
    pwmStart P s =
      { s with
        t0   := (pwmStart P s).t0, t1 := (pwmStart P s).t1, flag := (pwmStart P s).flag, en := (pwmStart P s).en
        slot := (pwmStart P s).slot, hb1 := (pwmStart P s).hb1, hb2 := (pwmStart P s).hb2 } := by
  cases h : s.mc.smode
  · simp only [pwmStart, h]
    rcases pwmStartSame_cases P s with ⟨-, e⟩ | ⟨-, e⟩ <;> rw [e]; rfl
  · simp only [pwmStart, h]
    rcases pwmStartMotor2_cases P (pwmStartMotor1 P s) with ⟨-, e⟩ | ⟨-, e⟩ <;> rw [e] <;>
      rcases pwmStartMotor1_cases P s with ⟨-, e'⟩ | ⟨-, e'⟩ <;> rw [e'] <;> rfl

end Sys2Proof.Machine
end

