-- ==== Sys2Proof/Laws/PerInstr.lean ====
section
/-! SUPPORT. Statements made per constructor of Instr. EncodedWordIsZeroUnderMask: an encoded command has no 1 in its row's zero
mask (30_encoding.md R117, R119). -/

namespace Sys2Proof.Laws

/-- No bit of the encoded command lies in the zero mask of its row. -/
def EncodedWordIsZeroUnderMask.Statement (i : Instr) : Prop := encode i &&& zeroMaskOf i = 0

theorem EncodedWordIsZeroUnderMask.nop : EncodedWordIsZeroUnderMask.Statement (.nop) := by
  rfl

theorem EncodedWordIsZeroUnderMask.rdreg (a0 : BitVec 8) : EncodedWordIsZeroUnderMask.Statement (.rdreg a0) := by
  simp only [EncodedWordIsZeroUnderMask.Statement, encode, zeroMaskOf]
  ext i hi
  simp only [BitVec.getElem_and, BitVec.getElem_append]
  interval_cases i <;> simp

theorem EncodedWordIsZeroUnderMask.uread : EncodedWordIsZeroUnderMask.Statement (.uread) := by
  rfl

theorem EncodedWordIsZeroUnderMask.tinit (a0 : BitVec 2) (a1 : BitVec 2) (a2 : BitVec 3) : EncodedWordIsZeroUnderMask.Statement (.tinit a0 a1 a2) := by
  simp only [EncodedWordIsZeroUnderMask.Statement, encode, zeroMaskOf]
  ext i hi
  simp only [BitVec.getElem_and, BitVec.getElem_append]
  interval_cases i <;> simp

theorem EncodedWordIsZeroUnderMask.tstop (a0 : BitVec 2) : EncodedWordIsZeroUnderMask.Statement (.tstop a0) := by
  simp only [EncodedWordIsZeroUnderMask.Statement, encode, zeroMaskOf]
  ext i hi
  simp only [BitVec.getElem_and, BitVec.getElem_append]
  interval_cases i <;> simp

theorem EncodedWordIsZeroUnderMask.tsetcnt (a0 : BitVec 2) (a1 : BitVec 16) : EncodedWordIsZeroUnderMask.Statement (.tsetcnt a0 a1) := by
  simp only [EncodedWordIsZeroUnderMask.Statement, encode, zeroMaskOf]
  ext i hi
  simp only [BitVec.getElem_and, BitVec.getElem_append]
  interval_cases i <;> simp

theorem EncodedWordIsZeroUnderMask.tsetocr (a0 : BitVec 2) (a1 : BitVec 1) (a2 : BitVec 16) : EncodedWordIsZeroUnderMask.Statement (.tsetocr a0 a1 a2) := by
  simp only [EncodedWordIsZeroUnderMask.Statement, encode, zeroMaskOf]
  ext i hi
  simp only [BitVec.getElem_and, BitVec.getElem_append]
  interval_cases i <;> simp

theorem EncodedWordIsZeroUnderMask.tseticr (a0 : BitVec 2) (a1 : BitVec 16) : EncodedWordIsZeroUnderMask.Statement (.tseticr a0 a1) := by
  simp only [EncodedWordIsZeroUnderMask.Statement, encode, zeroMaskOf]
  ext i hi
  simp only [BitVec.getElem_and, BitVec.getElem_append]
  interval_cases i <;> simp

theorem EncodedWordIsZeroUnderMask.tsetduty (a0 : BitVec 2) (a1 : BitVec 1) (a2 : BitVec 7) : EncodedWordIsZeroUnderMask.Statement (.tsetduty a0 a1 a2) := by
  simp only [EncodedWordIsZeroUnderMask.Statement, encode, zeroMaskOf]
  ext i hi
  simp only [BitVec.getElem_and, BitVec.getElem_append]
  interval_cases i <;> simp

theorem EncodedWordIsZeroUnderMask.tocpin (a0 : BitVec 2) (a1 : BitVec 1) (a2 : BitVec 2) : EncodedWordIsZeroUnderMask.Statement (.tocpin a0 a1 a2) := by
  simp only [EncodedWordIsZeroUnderMask.Statement, encode, zeroMaskOf]
  ext i hi
  simp only [BitVec.getElem_and, BitVec.getElem_append]
  interval_cases i <;> simp

theorem EncodedWordIsZeroUnderMask.evsetcb (a0 : BitVec 5) (a1 : BitVec 8) : EncodedWordIsZeroUnderMask.Statement (.evsetcb a0 a1) := by
  simp only [EncodedWordIsZeroUnderMask.Statement, encode, zeroMaskOf]
  ext i hi
  simp only [BitVec.getElem_and, BitVec.getElem_append]
  interval_cases i <;> simp

theorem EncodedWordIsZeroUnderMask.even (a0 : BitVec 5) : EncodedWordIsZeroUnderMask.Statement (.even a0) := by
  simp only [EncodedWordIsZeroUnderMask.Statement, encode, zeroMaskOf]
  ext i hi
  simp only [BitVec.getElem_and, BitVec.getElem_append]
  interval_cases i <;> simp

theorem EncodedWordIsZeroUnderMask.evdis (a0 : BitVec 5) : EncodedWordIsZeroUnderMask.Statement (.evdis a0) := by
  simp only [EncodedWordIsZeroUnderMask.Statement, encode, zeroMaskOf]
  ext i hi
  simp only [BitVec.getElem_and, BitVec.getElem_append]
  interval_cases i <;> simp

theorem EncodedWordIsZeroUnderMask.evclrf (a0 : BitVec 5) : EncodedWordIsZeroUnderMask.Statement (.evclrf a0) := by
  simp only [EncodedWordIsZeroUnderMask.Statement, encode, zeroMaskOf]
  ext i hi
  simp only [BitVec.getElem_and, BitVec.getElem_append]
  interval_cases i <;> simp

theorem EncodedWordIsZeroUnderMask.irqack (a0 : BitVec 5) : EncodedWordIsZeroUnderMask.Statement (.irqack a0) := by
  simp only [EncodedWordIsZeroUnderMask.Statement, encode, zeroMaskOf]
  ext i hi
  simp only [BitVec.getElem_and, BitVec.getElem_append]
  interval_cases i <;> simp

theorem EncodedWordIsZeroUnderMask.gieset : EncodedWordIsZeroUnderMask.Statement (.gieset) := by
  rfl

theorem EncodedWordIsZeroUnderMask.gieclr : EncodedWordIsZeroUnderMask.Statement (.gieclr) := by
  rfl

theorem EncodedWordIsZeroUnderMask.xsense (a0 : BitVec 2) (a1 : BitVec 2) : EncodedWordIsZeroUnderMask.Statement (.xsense a0 a1) := by
  simp only [EncodedWordIsZeroUnderMask.Statement, encode, zeroMaskOf]
  ext i hi
  simp only [BitVec.getElem_and, BitVec.getElem_append]
  interval_cases i <;> simp

theorem EncodedWordIsZeroUnderMask.hbset (a0 : BitVec 3) (a1 : BitVec 3) : EncodedWordIsZeroUnderMask.Statement (.hbset a0 a1) := by
  simp only [EncodedWordIsZeroUnderMask.Statement, encode, zeroMaskOf]
  ext i hi
  simp only [BitVec.getElem_and, BitVec.getElem_append]
  interval_cases i <;> simp

theorem EncodedWordIsZeroUnderMask.minit (a0 : BitVec 1) : EncodedWordIsZeroUnderMask.Statement (.minit a0) := by
  simp only [EncodedWordIsZeroUnderMask.Statement, encode, zeroMaskOf]
  ext i hi
  simp only [BitVec.getElem_and, BitVec.getElem_append]
  interval_cases i <;> simp

theorem EncodedWordIsZeroUnderMask.mspeed (a0 : BitVec 7) (a1 : BitVec 7) : EncodedWordIsZeroUnderMask.Statement (.mspeed a0 a1) := by
  simp only [EncodedWordIsZeroUnderMask.Statement, encode, zeroMaskOf]
  ext i hi
  simp only [BitVec.getElem_and, BitVec.getElem_append]
  interval_cases i <;> simp

theorem EncodedWordIsZeroUnderMask.mdir (a0 : BitVec 2) : EncodedWordIsZeroUnderMask.Statement (.mdir a0) := by
  simp only [EncodedWordIsZeroUnderMask.Statement, encode, zeroMaskOf]
  ext i hi
  simp only [BitVec.getElem_and, BitVec.getElem_append]
  interval_cases i <;> simp

theorem EncodedWordIsZeroUnderMask.mstop : EncodedWordIsZeroUnderMask.Statement (.mstop) := by
  rfl

theorem EncodedWordIsZeroUnderMask.uinit : EncodedWordIsZeroUnderMask.Statement (.uinit) := by
  rfl

theorem EncodedWordIsZeroUnderMask.utrig : EncodedWordIsZeroUnderMask.Statement (.utrig) := by
  rfl

end Sys2Proof.Laws
end

