-- ==== Sys2Proof/Laws/Step.lean ====
section
/-! SUPPORT. What one step can do: run the command at the head of the agenda, or a CLOCK cycle. -/

namespace Sys2Proof.Machine

theorem step_of_agenda_nil {s : State} (h : s.agenda = []) : step s = .next (clockCycle Config.params s) := by
  have : dropTurn s = s := by cases s; simp_all [dropTurn]
  simp [step, nextTurn, h, runTurn, this]

theorem step_of_agenda_clock {s : State} {rest : List Turn} (h : s.agenda = .clock :: rest) :
    step s = .next (clockCycle Config.params { s with agenda := rest }) := by
  simp [step, nextTurn, h, runTurn, dropTurn]

theorem step_of_agenda_host {s : State} {w : Word} {rest : List Turn} (h : s.agenda = .host w :: rest) :
    step s = hostCommand w { s with agenda := rest } := by
  simp [step, nextTurn, h, runTurn, dropTurn]

/-- What one step can do (00_scope.md R6): a HOST command, or a CLOCK cycle. -/
theorem step_cases (s : State) :
    (∃ w rest, s.agenda = .host w :: rest ∧ step s = hostCommand w { s with agenda := rest }) ∨
    (nextTurn s = .clock ∧ step s = .next (clockCycle Config.params (dropTurn s))) := by
  match h : s.agenda with
  | [] => exact .inr ⟨by simp [nextTurn, h], by simp [step, nextTurn, h, runTurn]⟩
  | .clock :: rest => exact .inr ⟨by simp [nextTurn, h], by simp [step, nextTurn, h, runTurn]⟩
  | .host w :: rest => exact .inl ⟨w, rest, rfl, step_of_agenda_host h⟩

/-- What a HOST step can do (45_access.md R300): run the decoded command, or reject the word. -/
theorem hostCommand_cases (w : Word) (s : State) :
    (∃ i, decode w = .ok i ∧ hostCommand w s = exec i s) ∨ (∃ e, decode w = .error e ∧ hostCommand w s = rejected e s) := by
  unfold hostCommand
  match decode w with
  | .ok i    => exact .inl ⟨i, rfl, rfl⟩
  | .error e => exact .inr ⟨e, rfl, rfl⟩

/-- The word that withFetchWord places is what the next step runs. -/
theorem step_withFetchWord (s : State) (nbits w : Nat) :
    step (s.withFetchWord nbits w) = hostCommand (tableWord nbits w) s := by
  rw [step_of_agenda_host (w := tableWord nbits w) (rest := s.agenda) rfl]; rfl

end Sys2Proof.Machine
end

