-- ==== Sys2Proof/Laws/Ultrasonic.lean ====
section
/-! SUPPORT. What the commands, the pulse and the actions of the echo accumulator change, written out field by field. -/

namespace Sys2Proof.Machine

/-- Setting a sensitivity writes the line and its flag, and nothing else (42_exti.md R201). -/
theorem setSense_eq (i : Line) (m : Sense) (s : State) :
    setSense i m s =
      { s with line := s.line.set i ⟨m, (nextPins s.env).get i⟩, flag := s.flag.set (lineSrc i) false } := rfl

/-- UINIT's writes (43_ultrasonic.md R222). -/
theorem uinitSeq_eq (P : Params) (s : State) :
    uinitSeq P s =
      { s with
        us   := { s.us with trig := false, on := false, pcnt := 0, exp := .rising, ovf := 0 }
        line := s.line.set P.echoLine ⟨.anyEdge, (nextPins s.env).get P.echoLine⟩
        flag := s.flag.set (echoSrc P) false
        slot := (s.slot.set (echoSrc P) .echoEdge).set .t2Ovf .echoOvf
        en   := (s.en.set (echoSrc P) true).set .t2Ovf false
        t2   := { s.t2 with cs := .stop } } := by
  simp [uinitSeq, setSense, stopTimer, State.setSlot, State.setEn, State.setFlag, State.setLine, State.pin, echoSrc]

/-- What UTRIG can do (R223): nothing while ON, or start the pulse. -/
theorem utrigSeq_cases (P : Params) (s : State) :
    (s.us.on = true ∧ utrigSeq P s = s) ∨
    (s.us.on = false ∧
      utrigSeq P s = { s with us := { s.us with on := true, pcnt := BitVec.ofNat 32 P.trigCycles, trig := true } }) := by
  unfold utrigSeq
  cases s.us.on
  · exact .inr ⟨rfl, rfl⟩
  · exact .inl ⟨rfl, rfl⟩

/-- The rising edge's writes (R235). -/
theorem echoRise_eq (s : State) :
    echoRise s = { s with t2 := { s.t2 with cnt := 0 }, us := { s.us with ovf := 0, exp := .falling } } := rfl

/-- The falling edge's writes (R236). -/
theorem echoFall_eq (s : State) :
    echoFall s =
      { s with
        en := s.en.set .t2Ovf false
        us := { s.us with
          resTicks := BitVec.ofNat 24 (s.us.ovf.toNat * 256 + s.t2.cnt.toNat), resTo := false, ovf := 0, exp := .rising, on := false }
        t2 := { s.t2 with cs := .stop } } := rfl

/-- The result's tick count fits its 24 bits (R236): the overflow counter has 16 bits and the counter 8. -/
theorem echoTicks_lt (u : Ultrasonic) (t : Timer8) : u.ovf.toNat * 256 + t.cnt.toNat < 2 ^ 24 := by
  have h1 := u.ovf.isLt
  have h2 := t.cnt.isLt
  omega

/-- The timeout's writes (R239). -/
theorem timeout_eq (s : State) :
    timeout s =
      { s with
        us := { s.us with resTo := true, resTicks := 0, ovf := 0, exp := .rising, on := false }
        t2 := { s.t2 with cnt := 0, cs := .stop }
        en := s.en.set .t2Ovf false } := rfl

end Sys2Proof.Machine
end

