-- ==== Sys2Proof/Tests/Slice0.lean ====
section
/-! SUPPORT. The model's own tests. Expected values come from the spec: the encodings of 30_encoding.md R100 to R124 and the vectors
of 95_test_vectors.md (named beside each test). The theorems named witness_<Name> meet the hypotheses of Obligations.<Name>. -/

open Sys2Proof Sys2Proof.Machine Sys2Proof.Statements

namespace Sys2Proof.Tests

/-- The example parameters of 95_test_vectors.md. -/
def exampleParams : Params :=
  { fClk := 8000000, pwmCs := .div1, rangingCs := .div64, vSound := ⟨34300, 1⟩, maxDist := ⟨400, 1⟩, maxOvf := 11,
    trigCyclesPred := 119, echoLine := .int0 }

/-- A result is a next state with the property `p`. -/
def answers (r : Result) (p : State → Bool) : Bool :=
  match r with
  | .next t    => p t
  | .fault _   => false
  | .refused _ => false

/-- A word submitted in `s` is rejected with the code, and changes nothing but the response. -/
def rejectsWord (w : Word) (code : BitVec 4) (s : State) : Bool :=
  answers (hostCommand w s) fun t => t == { s with resp := ⟨true, code, 0⟩ }

/-- The byte of RDREG in a state. -/
def byteAt (s : State) (a : Byte) : Option Nat := (regRead s a).map BitVec.toNat

/-! ### Decoding: each word is written bit by bit from the spec's encoding -/

/-- format N. -/
theorem test_decode_nop : decode (0b000000#6 ++ 0b00000000000000000000000000#26) = .ok .nop := by rfl

/-- format R; 95_test_vectors.md, RDREG US_RES_2. -/
theorem test_decode_rdreg : decode (0b000001#6 ++ 0b000000000000000000#18 ++ 0b01000010#8) = .ok (.rdreg 0x42) := by rfl

/-- format N. -/
theorem test_decode_uread : decode (0b000010#6 ++ 0b00000000000000000000000000#26) = .ok .uread := by rfl

/-- R124: TINIT T0, FAST_PWM, DIV64. -/
theorem test_decode_tinit : decode (0b000100#6 ++ 0b00#2 ++ 0b0#1 ++ 0b10#2 ++ 0b011#3 ++ 0b000000000000000000#18) = .ok (.tinit 0 2 3) := by rfl

/-- format T. -/
theorem test_decode_tstop : decode (0b000101#6 ++ 0b10#2 ++ 0b000000000000000000000000#24) = .ok (.tstop 2) := by rfl

/-- R134: TSETCNT T1, 0x1234. -/
theorem test_decode_tsetcnt : decode (0b000110#6 ++ 0b01#2 ++ 0b00000000#8 ++ 0b0001001000110100#16) = .ok (.tsetcnt 1 0x1234) := by rfl

/-- V-TMR.8: TSETOCR T1, B, 65535. -/
theorem test_decode_tsetocr : decode (0b000111#6 ++ 0b01#2 ++ 0b1#1 ++ 0b0000000#7 ++ 0b1111111111111111#16) = .ok (.tsetocr 1 1 0xFFFF) := by rfl

/-- R136: TSETICR T1, 255. -/
theorem test_decode_tseticr : decode (0b001000#6 ++ 0b01#2 ++ 0b00000000#8 ++ 0b0000000011111111#16) = .ok (.tseticr 1 255) := by rfl

/-- V-TMR.8: TSETDUTY T1, B, 50. -/
theorem test_decode_tsetduty : decode (0b001001#6 ++ 0b01#2 ++ 0b1#1 ++ 0b0000000#7 ++ 0b000000000#9 ++ 0b0110010#7) = .ok (.tsetduty 1 1 50) := by rfl

/-- P3: TOCPIN T2, A, TOGGLE. -/
theorem test_decode_tocpin : decode (0b001010#6 ++ 0b10#2 ++ 0b0#1 ++ 0b00000#5 ++ 0b01#2 ++ 0b0000000000000000#16) = .ok (.tocpin 2 0 1) := by rfl

/-- R124: EVSETCB T0_OVF, HB(CW, CCW). -/
theorem test_decode_evsetcb : decode (0b010000#6 ++ 0b00001#5 ++ 0b01010001#8 ++ 0b0000000000000#13) = .ok (.evsetcb 1 0x51) := by rfl

/-- V-EV.1: EVEN INT0. -/
theorem test_decode_even : decode (0b010001#6 ++ 0b01000#5 ++ 0b000000000000000000000#21) = .ok (.even 8) := by rfl

/-- V-EV.1: EVDIS T2_OVF. -/
theorem test_decode_evdis : decode (0b010010#6 ++ 0b00111#5 ++ 0b000000000000000000000#21) = .ok (.evdis 7) := by rfl

/-- V-EV.1: EVCLRF T1_CAPT. -/
theorem test_decode_evclrf : decode (0b010011#6 ++ 0b00100#5 ++ 0b000000000000000000000#21) = .ok (.evclrf 4) := by rfl

/-- V-EV.1: IRQACK INT0. -/
theorem test_decode_irqack : decode (0b010100#6 ++ 0b01000#5 ++ 0b000000000000000000000#21) = .ok (.irqack 8) := by rfl

/-- format N. -/
theorem test_decode_gieset : decode (0b010101#6 ++ 0b00000000000000000000000000#26) = .ok .gieset := by rfl

/-- format N. -/
theorem test_decode_gieclr : decode (0b010110#6 ++ 0b00000000000000000000000000#26) = .ok .gieclr := by rfl

/-- V-X.1: XSENSE INT1, FALL. -/
theorem test_decode_xsense : decode (0b011000#6 ++ 0b01#2 ++ 0b10#2 ++ 0b0000000000000000000000#22) = .ok (.xsense 1 2) := by rfl

/-- V-MC.1: HBSET CW, CCW. -/
theorem test_decode_hbset : decode (0b011100#6 ++ 0b00000000000000000000#20 ++ 0b010#3 ++ 0b001#3) = .ok (.hbset 1 2) := by rfl

/-- L1.7: MINIT DIFF. -/
theorem test_decode_minit : decode (0b100000#6 ++ 0b1#1 ++ 0b0000000000000000000000000#25) = .ok (.minit 1) := by rfl

/-- R124: MSPEED 54, 50. -/
theorem test_decode_mspeed : decode (0b100001#6 ++ 0b000000000000#12 ++ 0b0110110#7 ++ 0b0110010#7) = .ok (.mspeed 54 50) := by rfl

/-- V-MC.9: MDIR LEFT. -/
theorem test_decode_mdir : decode (0b100010#6 ++ 0b11#2 ++ 0b000000000000000000000000#24) = .ok (.mdir 3) := by rfl

/-- format N. -/
theorem test_decode_mstop : decode (0b100011#6 ++ 0b00000000000000000000000000#26) = .ok .mstop := by rfl

/-- format N. -/
theorem test_decode_uinit : decode (0b101000#6 ++ 0b00000000000000000000000000#26) = .ok .uinit := by rfl

/-- format N. -/
theorem test_decode_utrig : decode (0b101001#6 ++ 0b00000000000000000000000000#26) = .ok .utrig := by rfl

/-! ### Rejected words (V-ENC) -/

theorem test_reserved_opcode_is_refused : fieldsOf 0x0C000000 = none ∧ fieldsOf 0xFC000000 = none := by decide

theorem test_word_rejections :
    rejectsWord 0x0C0000FF 1 State.reset ∧ rejectsWord 0x00000001 2 State.reset ∧ rejectsWord 0x24000080 2 State.reset ∧
    rejectsWord 0x81000000 2 State.reset ∧ rejectsWord 0x13000001 2 State.reset ∧ rejectsWord 0x4001FE00 2 State.reset := by
  decide

theorem test_field_rejections_follow_the_check_order :
    rejectsWord 0x131C0000 3 State.reset ∧ rejectsWord 0x23000005 3 State.reset ∧ rejectsWord 0x1C80012C 4 State.reset ∧
    rejectsWord 0x10600000 5 State.reset ∧ rejectsWord 0x101C0000 6 State.reset ∧ rejectsWord 0x18000100 7 State.reset ∧
    rejectsWord 0x70000028 7 State.reset ∧ rejectsWord 0x84003280 7 State.reset ∧ rejectsWord 0x53E00000 8 State.reset ∧
    rejectsWord 0x400CA000 9 State.reset ∧ rejectsWord 0x040000FF 10 State.reset ∧ rejectsWord 0x63000000 11 State.reset := by
  decide

/-! ### WellFormed: an ill-formed command for each field check -/

theorem test_wf_refuses_timer : (Instr.tinit 3 0 0).wf = false ∧ (Instr.tseticr 0 0).wf = false := by decide
theorem test_wf_refuses_channel : (Instr.tsetocr 0 1 0).wf = false ∧ (Instr.tsetocr 1 1 0).wf = true := by decide
theorem test_wf_refuses_mode : (Instr.tinit 2 3 1).wf = false ∧ (Instr.tinit 1 3 1).wf = true := by decide
theorem test_wf_refuses_clock_select : (Instr.tinit 1 0 6).wf = false ∧ (Instr.tinit 1 0 5).wf = true := by decide
theorem test_wf_refuses_value :
    (Instr.tsetcnt 0 256).wf = false ∧ (Instr.tsetcnt 1 256).wf = true ∧ (Instr.tsetduty 0 0 101).wf = false ∧
    (Instr.hbset 0 5).wf = false ∧ (Instr.mspeed 0 101).wf = false := by decide
theorem test_wf_refuses_source : (Instr.even 11).wf = false ∧ (Instr.even 10).wf = true := by decide
theorem test_wf_refuses_action :
    (Instr.evsetcb 0 0x04).wf = false ∧ (Instr.evsetcb 0 0x45).wf = false ∧ (Instr.evsetcb 0 0x64).wf = true := by decide
theorem test_wf_refuses_address : (Instr.rdreg 0x43).wf = false ∧ (Instr.rdreg 0x42).wf = true := by decide
theorem test_wf_refuses_line : (Instr.xsense 3 0).wf = false ∧ (Instr.xsense 2 0).wf = true := by decide

/-! ### Commands: one step each -/

theorem test_nop_clears_the_error : answers (exec .nop { State.reset with resp := ⟨true, 1, 0⟩ }) (fun t => t == State.reset) := by
  decide

/-- V-ACC.1. -/
theorem test_rdreg_low_byte_latches_temp :
    answers (exec (.rdreg 0x06) { State.reset with t1 := { resetTimer16 with cnt := 0x1234 } })
      (fun t => t.resp.data == 0x34 && t.temp == 0x12) := by decide

/-- V-ACC.3: the high byte comes from TEMP, whichever register loaded it. -/
theorem test_rdreg_high_byte_is_temp :
    answers (exec (.rdreg 0x07) { State.reset with t1 := { resetTimer16 with cnt := 0x5678 }, temp := 0x00 })
      (fun t => t.resp.data == 0x00) := by decide

/-- V-US.6: WAIT_FALL with a previous result of 50 ticks. -/
theorem test_uread_layout :
    answers (exec .uread { State.reset with us := ⟨true, .falling, 0, 0, 50, false, false⟩ })
      (fun t => t.resp.data == 0x06000032) := by decide

/-- V-TMR.3. -/
theorem test_tinit_control_byte :
    answers (hostCommand 0x120C0000 State.reset) (fun t => byteAt t 0x10 == some 0x0C) := by decide

/-- V-TMR.7. -/
theorem test_tstop_keeps_the_count :
    answers (hostCommand 0x14000000 { State.reset with t0 := { resetTimer8 with cs := .run .div1, cnt := 55 } })
      (fun t => t.t0.cnt == 55 && byteAt t 0x00 == some 0x00) := by decide

/-- V-ENC: legal on T1. -/
theorem test_tsetcnt_t1 : answers (hostCommand 0x19000100 State.reset) (fun t => t.t1.cnt == 256 && !t.resp.err) := by decide

/-- V-TMR.8. -/
theorem test_tsetocr_t1_b : answers (hostCommand 0x1D80FFFF State.reset) (fun t => t.t1.ocrb == 0xFFFF && t.t1.ocra == 0) := by
  decide

/-- V-TMR.8. -/
theorem test_tseticr : answers (hostCommand 0x210000FF State.reset) (fun t => t.t1.icr == 255) := by decide

/-- V-TMR.8: the documented underflow at 0 %. -/
theorem test_tsetduty_underflow : answers (hostCommand 0x24000000 State.reset) (fun t => t.t0.ocra == 255) := by decide

/-- V-TMR.8. -/
theorem test_tsetduty_t1_b : answers (hostCommand 0x25800032 State.reset) (fun t => t.t1.ocrb == 0x007F) := by decide

/-- R139: the pin behaviour changes, the latch does not. -/
theorem test_tocpin_keeps_the_latch :
    answers (hostCommand 0x28030000 { State.reset with t0 := { resetTimer8 with oca := true } })
      (fun t => t.t0.coma == .inverting && t.t0.oca) := by decide

/-- V-EV.1. -/
theorem test_evsetcb_slot_byte : answers (hostCommand 0x402A2000 State.reset) (fun t => byteAt t 0x21 == some 0x51) := by decide

/-- V-EV.1. -/
theorem test_even_int0 : answers (hostCommand 0x45000000 State.reset) (fun t => byteAt t 0x1B == some 0x01) := by decide

/-- V-EV.1, with every bit set before. -/
theorem test_evdis_clears_one_bit :
    answers (hostCommand 0x48E00000 { State.reset with en := perSrcConst true })
      (fun t => byteAt t 0x1A == some 0x7F && byteAt t 0x1B == some 0x07) := by decide

/-- V-EV.1, with every bit set before. -/
theorem test_evclrf_clears_one_bit :
    answers (hostCommand 0x4C800000 { State.reset with flag := perSrcConst true })
      (fun t => byteAt t 0x18 == some 0xEF && byteAt t 0x19 == some 0x07) := by decide

/-- V-EV.1, with every bit set before: the IRQ output stays 1. -/
theorem test_irqack_clears_one_bit :
    answers (hostCommand 0x51000000 { State.reset with irqp := perSrcConst true })
      (fun t => byteAt t 0x1D == some 0x06 && byteAt t 0x1E == some 0x02) := by decide

/-- V-EV.1. -/
theorem test_gieset : answers (hostCommand 0x54000000 State.reset) (fun t => byteAt t 0x1E == some 0x01) := by decide

/-- V-EV.1. -/
theorem test_gieclr : answers (hostCommand 0x58000000 { State.reset with gie := true }) (fun t => byteAt t 0x1E == some 0x00) := by
  decide

/-- V-X.3: PIN2 is 0; the flag is cleared and PREV reloaded. -/
theorem test_xsense_clears_and_reloads :
    answers (hostCommand 0x62C00000 { State.resetWith [⟨true, true, false⟩] with
      flag := { perSrcConst false with int2 := true }, line := ⟨⟨.lowLevel, true⟩, ⟨.lowLevel, true⟩, ⟨.lowLevel, true⟩⟩ })
      (fun t => !t.flag.int2 && t.line.int2 == ⟨.rising, false⟩) := by decide

/-- V-MC.1: FREESTOP keeps X and Y. -/
theorem test_hbset_freestop_keeps_x_y :
    answers (hostCommand 0x70000024 { State.reset with hb1 := ⟨true, false, true⟩, hb2 := ⟨true, true, false⟩ })
      (fun t => byteAt t 0x34 == some 0x24) := by decide

/-- V-MC.1: KEEP leaves channel 1. -/
theorem test_hbset_keep :
    answers (hostCommand 0x70000018 { State.reset with hb1 := ⟨false, false, true⟩, hb2 := ⟨false, true, false⟩ })
      (fun t => byteAt t 0x34 == some 0x14) := by decide

/-- V-MC.9. -/
theorem test_minit_keeps_dir :
    answers (hostCommand 0x82000000 { State.reset with mc := ⟨.same, .left, true, 54, 50⟩ })
      (fun t => byteAt t 0x38 == some 0x07 && byteAt t 0x39 == some 0 && byteAt t 0x34 == some 0x11) := by decide

/-- V-MC.10. -/
theorem test_mspeed_inactive_only_stores :
    answers (hostCommand 0x84001B32 State.reset)
      (fun t => byteAt t 0x39 == some 0x36 && byteAt t 0x3A == some 0x32 && t.t0 == resetTimer8 && t.t1 == resetTimer16) := by
  decide

/-- P2b, after MDIR FWD: T1 and T0, the slots, the enables and the channels. -/
theorem test_mdir_different_speeds :
    let t := mdirSeq exampleParams .forward { State.reset with mc := ⟨.different, .forward, false, 54, 50⟩ }
    t.t1.ocra = 137 ∧ t.t1.icr = 255 ∧ t.t0.ocra = 127 ∧ byteAt t 0x20 = some 0x58 ∧ byteAt t 0x21 = some 0x50 ∧
    byteAt t 0x22 = some 0x43 ∧ byteAt t 0x24 = some 0x41 ∧ byteAt t 0x1A = some 0x17 ∧ byteAt t 0x34 = some 0x35 := by decide

/-- P2a, after MDIR FWD. -/
theorem test_mdir_same_speed :
    let t := mdirSeq exampleParams .forward { State.reset with mc := ⟨.same, .forward, false, 50, 0⟩ }
    byteAt t 0x00 = some 0x06 ∧ t.t0.ocra = 127 ∧ byteAt t 0x20 = some 0x5B ∧ byteAt t 0x21 = some 0x51 ∧
    byteAt t 0x38 = some 0x08 ∧ byteAt t 0x34 = some 0x35 := by decide

/-- P2b, after MSTOP. -/
theorem test_mstop_different_speeds :
    answers (exec .mstop { State.reset with
      t0 := { resetTimer8 with mode := .fastPwm, cs := .run .div1, cnt := 100 }
      t1 := { resetTimer16 with mode := .fastPwmIcr, cs := .run .div1, cnt := 100 }
      en := { perSrcConst false with t0Cmp := true, t0Ovf := true, t1CmpA := true, t1Capt := true }
      mc := ⟨.different, .right, true, 54, 50⟩ })
      (fun t => byteAt t 0x34 == some 0x11 && byteAt t 0x00 == some 0x02 && byteAt t 0x04 == some 0x02 && byteAt t 0x1A == some 0 &&
        byteAt t 0x38 == some 0x05 && t.t1.cnt == 100) := by decide

/-- V-US.1. -/
theorem test_uinit :
    let t := uinitSeq exampleParams (State.resetWith [⟨false, true, true⟩])
    byteAt t 0x30 = some 0x01 ∧ byteAt t 0x28 = some 0x02 ∧ byteAt t 0x27 = some 0x03 ∧ byteAt t 0x1B = some 0x01 ∧
    byteAt t 0x1A = some 0x00 ∧ byteAt t 0x3C = some 0x00 := by decide

/-- V-US.2, and the busy no-op. -/
theorem test_utrig :
    let t := utrigSeq exampleParams State.reset
    t.us.pcnt = 120 ∧ byteAt t 0x3C = some 0x15 ∧ ureadData t.us = 0x0A000000 ∧ utrigSeq exampleParams t = t := by decide

/-! ### Clocked behaviour: one cycle each -/

/-- V-TMR.1, cycle 1. -/
theorem test_first_tick_compares_zero :
    let t := clockCycle exampleParams { State.reset with t0 := { resetTimer8 with cs := .run .div1 } }
    t.t0.cnt = 1 ∧ t.flag.t0Cmp = true ∧ t.flag.t0Ovf = false := by decide

/-- V-TMR.5: TOP = 0 in an ICR mode. -/
theorem test_icr_zero_sets_four_flags :
    byteAt (clockCycle exampleParams { State.reset with t1 := { resetTimer16 with mode := .fastPwmIcr, cs := .run .div1 } }) 0x18 =
      some 0x3C := by decide

/-- V-TMR.4, cycle 65516: above TOP the counter runs to MAX. -/
theorem test_wrap_at_max_above_top :
    let t := clockCycle exampleParams
      { State.reset with t1 := { resetTimer16 with mode := .ctcOcra, cs := .run .div1, ocra := 10, cnt := 65535 } }
    t.t1.cnt = 0 ∧ byteAt t 0x18 = some 0x20 := by decide

/-- P3, cycle 80: the compare, the wrap and the toggle, and no overflow. -/
theorem test_ctc_toggle :
    let t := clockCycle exampleParams { State.reset with t2 :=
      { resetTimer8 with mode := .ctc, cs := .run .div8, cnt := 9, psc := 7, ocra := 9, coma := .toggle } }
    t.t2.cnt = 0 ∧ t.t2.psc = 0 ∧ byteAt t 0x14 = some 0x08 ∧ byteAt t 0x18 = some 0x40 ∧ (outputs t).oc2A = some true := by decide

/-- V-EV.6, cycle 256: source 0 runs before source 1. -/
theorem test_dispatch_order :
    let t := clockCycle exampleParams { State.reset with
      gie := true, t0 := { resetTimer8 with mode := .fastPwm, cs := .run .div1, ocra := 255, cnt := 255 }
      en := { perSrcConst false with t0Cmp := true, t0Ovf := true }
      slot := { perSrcConst .null with t0Cmp := .hb .fastStop .fastStop, t0Ovf := .hb .cw .ccw } }
    byteAt t 0x34 = some 0x35 ∧ byteAt t 0x18 = some 0x00 := by decide

/-- V-X.1, cycle 10. -/
theorem test_falling_edge_interrupts_the_host :
    let t := clockCycle exampleParams { State.resetWith [⟨true, false, true⟩] with
      gie := true, line := ⟨⟨.lowLevel, true⟩, ⟨.falling, true⟩, ⟨.lowLevel, true⟩⟩
      en := { perSrcConst false with int1 := true }, slot := { perSrcConst .null with int1 := .hostIrq } }
    byteAt t 0x1D = some 0x02 ∧ byteAt t 0x19 = some 0x00 ∧ byteAt t 0x1E = some 0x03 := by decide

/-- V-US.3, cycle 120. -/
theorem test_pulse_end :
    let t := clockCycle exampleParams { State.reset with us := ⟨true, .rising, 1, 0, 0, false, true⟩ }
    byteAt t 0x10 = some 0x0C ∧ byteAt t 0x1A = some 0x80 ∧ byteAt t 0x3C = some 0x01 ∧ t.t2.cnt = 0 := by decide

/-- V-US.9: the overflow is counted before the edge. -/
theorem test_overflow_then_falling_edge :
    let t := clockCycle exampleParams { State.resetWith [⟨false, true, true⟩] with
      gie := true, us := ⟨true, .falling, 0, 0, 0, false, false⟩
      t2 := { resetTimer8 with cs := .run .div64, cnt := 255, psc := 63 }
      line := ⟨⟨.anyEdge, true⟩, ⟨.lowLevel, true⟩, ⟨.lowLevel, true⟩⟩
      en := { perSrcConst false with t2Ovf := true, int0 := true }
      slot := { perSrcConst .null with t2Ovf := .echoOvf, int0 := .echoEdge } }
    t.us.resTicks = 256 ∧ t.us.on = false ∧ t.en.t2Ovf = false := by decide

/-- V-US.4, cycle 196728. -/
theorem test_timeout :
    let t := clockCycle exampleParams { State.reset with
      gie := true, us := ⟨true, .rising, 0, 11, 50, false, false⟩
      t2 := { resetTimer8 with cs := .run .div64, cnt := 255, psc := 63 }
      en := { perSrcConst false with t2Ovf := true }, slot := { perSrcConst .null with t2Ovf := .echoOvf } }
    ureadData t.us = 0x01000000 ∧ byteAt t 0x10 = some 0x00 ∧ t.us.ovf = 0 := by decide

/-- L1.4: the distance of a 529-tick echo, 72.5788 cm. -/
theorem test_distance :
    distance exampleParams ⟨false, .rising, 0, 0, 529, false, false⟩ = 725788 / 10000 := by
  have h : (529 : BitVec 24).toNat = 529 := rfl
  norm_num [distance, exampleParams, posRatValue, divisor, h]

/-! ### Witnesses: states and operands that meet the hypotheses of each statement -/

theorem witness_EncodeOfDecodeIsTheWord : decode 0x8B000000 = .ok (.mdir 3) := by rfl

/-- Each clause at both ends of its range. -/
theorem witness_ReservedOpcodesAreRejected :
    ∀ op ∈ [(0x03 : Nat), 0x0B, 0x0F, 0x17, 0x19, 0x1B, 0x1D, 0x1F, 0x24, 0x27, 0x2A, 0x3F],
      (opcodeOf (BitVec.ofNat 32 (op * 2 ^ 26))).toNat = op ∧ fieldsOf (BitVec.ofNat 32 (op * 2 ^ 26)) = none := by decide

theorem witness_MustBeZeroBitsAreRejected :
    opcodeOf 0x00000001 = opcodeOf (encode .nop) ∧ (0x00000001 : Word) &&& zeroMaskOf .nop ≠ 0 ∧
    opcodeOf 0x13000001 = opcodeOf (encode (.tinit 3 0 0)) ∧ (0x13000001 : Word) &&& zeroMaskOf (.tinit 3 0 0) ≠ 0 := by decide

theorem witness_StepRunsTheDecodedCommand :
    ({ State.reset with agenda := [.host 0x54000000, .clock] } : State).agenda = .host 0x54000000 :: [.clock] ∧
    decode 0x54000000 = .ok .gieset ∧ decode 0x0C000000 = .error .eOpcode ∧ decode 0x54000001 = .error .eRsvd := ⟨rfl, rfl, rfl, rfl⟩

theorem witness_StepRunsTheFourPhases :
    nextTurn State.reset = .clock ∧ nextTurn { State.reset with agenda := [.clock, .host 0] } = .clock := by decide

/-- Each of the nine field checks can be the first that fails. -/
theorem witness_FirstFailingCheckRejects :
    (Instr.tinit 3 3 7).firstFailure = some .eTimer ∧ (Instr.tsetocr 0 1 300).firstFailure = some .eChan ∧
    (Instr.tinit 0 3 7).firstFailure = some .eMode ∧ (Instr.tinit 0 0 6).firstFailure = some .eCs ∧
    (Instr.tsetcnt 0 256).firstFailure = some .eValue ∧ (Instr.evsetcb 11 0xFF).firstFailure = some .eSrc ∧
    (Instr.evsetcb 10 0x04).firstFailure = some .eAct ∧ (Instr.rdreg 3).firstFailure = some .eAddr ∧
    (Instr.xsense 3 0).firstFailure = some .eLine := by decide

/-- Every command has a legal form. -/
theorem witness_LegalCommandsAreAccepted :
    ∀ i ∈ [Instr.nop, .rdreg 0x42, .uread, .tinit 1 3 5, .tstop 2, .tsetcnt 0 255, .tsetocr 1 1 65535, .tseticr 1 0, .tsetduty 2 0 100,
        .tocpin 1 1 3, .evsetcb 10 0x64, .even 10, .evdis 0, .evclrf 7, .irqack 8, .gieset, .gieclr, .xsense 2 3, .hbset 4 4, .minit 1,
        .mspeed 100 100, .mdir 3, .mstop, .uinit, .utrig],
      i.wf = true := by decide

/-- Both ends of every reserved range have no byte, and the addresses beside them have one. -/
theorem witness_ReservedAddressesAreRejected :
    (∀ a ∈ [(0x03 : Byte), 0x0E, 0x0F, 0x13, 0x15, 0x17, 0x1F, 0x2B, 0x2F, 0x32, 0x33, 0x35, 0x37, 0x3B, 0x3F, 0x43, 0xFF],
      regRead State.reset a = none) ∧
    (∀ a ∈ [(0x00 : Byte), 0x02, 0x04, 0x0D, 0x10, 0x12, 0x14, 0x18, 0x1E, 0x20, 0x2A, 0x30, 0x31, 0x34, 0x38, 0x3A, 0x3C, 0x3E, 0x40,
      0x42], (regRead State.reset a).isSome = true) := by decide

theorem witness_RdregReturnsTheByteAndLatchesTemp :
    ∀ a ∈ [(0x06 : Byte), 0x08, 0x0A, 0x0C, 0x00, 0x07, 0x42], addrIsReserved a = false := by decide

/-- Every address the statement names has a byte, and both halves of the source range have a source. -/
theorem witness_RegisterMapShowsTheFields :
    (∀ a ∈ [(0x00 : Byte), 0x01, 0x02, 0x04, 0x05, 0x06, 0x07, 0x08, 0x09, 0x0A, 0x0B, 0x0C, 0x0D, 0x10, 0x11, 0x12, 0x14, 0x18, 0x19,
      0x1A, 0x1B, 0x1C, 0x1D, 0x1E, 0x30, 0x31, 0x34, 0x38, 0x39, 0x3A, 0x3C, 0x3D, 0x3E, 0x40, 0x41, 0x42],
      (regRead State.reset a).isSome = true) ∧
    srcId .t2Ovf < 8 ∧ 8 ≤ srcId .int0 := by decide

theorem witness_LowThenHighReadsOneValue :
    ((0x0C : Byte), (0x0D : Byte), (0xABCD : BitVec 16)) ∈ [((0x06 : Byte), (0x07 : Byte), (0 : BitVec 16)), (0x08, 0x09, 0),
      (0x0A, 0x0B, 0), (0x0C, 0x0D, ({ resetTimer16 with icr := 0xABCD } : Timer16).icr)] := by decide

theorem witness_TimerRegisterWrites : ∀ tmr ∈ [(0 : BitVec 2), 2, 3], tmr ≠ 1 := by decide

theorem witness_DutyValues : ∀ p ∈ [(0 : BitVec 7), 100], p.toNat ≤ 100 := by decide

theorem witness_TsetdutyWritesTheDutyValue : ∀ p ∈ [(0 : BitVec 7), 100], p.toNat ≤ 100 := by decide

theorem witness_TopsAndDivisors :
    (∀ m ∈ [Mode8.normal, .ctc, .fastPwm], ({ resetTimer8 with mode := m } : Timer8).mode = m) ∧
    (∀ m ∈ [Mode16.normal, .ctcOcra, .fastPwmIcr, .ctcIcr], ({ resetTimer16 with mode := m } : Timer16).mode = m) ∧
    clockSelOf 1 = some (.run .div1) ∧ clockSelOf 5 = some (.run .div1024) ∧
    ((5 : BitVec 3), 1024) ∈ [((1 : BitVec 3), 1), (2, 8), (3, 64), (4, 256), (5, 1024)] := by decide

/-- A running timer of each width with PSC = 0, at the smallest and the largest divisor, and a stopped one. -/
theorem witness_FirstTickFallsOnTheNthCycle :
    (∀ d ∈ [ClockDiv.div1, .div1024], ({ resetTimer8 with cs := .run d } : Timer8).cs = .run d ∧
      ({ resetTimer16 with cs := .run d } : Timer16).cs = .run d) ∧
    resetTimer8.psc = 0 ∧ resetTimer16.psc = 0 ∧ resetTimer8.cs = .stop ∧ resetTimer16.cs = .stop := by decide

theorem witness_OutputCompareLatchActions :
    ∀ c ∈ [Com.disconnect, .toggle, .nonInverting, .inverting], ({ resetTimer8 with coma := c } : Timer8).coma = c ∧
      ({ resetTimer16 with coma := c, comb := c } : Timer16).coma = c ∧
      ({ resetTimer16 with coma := c, comb := c } : Timer16).comb = c := by decide

/-- The hypotheses of each clause, at CNT = OCR. -/
theorem witness_PwmPinFollowsTheComparison :
    (let t : Timer8 := { resetTimer8 with mode := .fastPwm, coma := .nonInverting, cnt := 3, ocra := 3, oca := true }
     t.mode = .fastPwm ∧ t.coma = .nonInverting ∧ (t.oca = true ↔ t.cnt ≤ t.ocra)) ∧
    (let t : Timer8 := { resetTimer8 with mode := .fastPwm, coma := .inverting, cnt := 3, ocra := 3, oca := false }
     t.mode = .fastPwm ∧ t.coma = .inverting ∧ (t.oca = false ↔ t.cnt ≤ t.ocra)) ∧
    (let t : Timer16 := { resetTimer16 with
      mode := .fastPwmIcr, icr := 255, coma := .nonInverting, comb := .inverting, cnt := 255, ocra := 255, ocrb := 255, oca := true }
     t.mode = .fastPwmIcr ∧ t.cnt ≤ t.icr ∧ t.coma = .nonInverting ∧ (t.oca = true ↔ t.cnt ≤ t.ocra) ∧ t.comb = .inverting ∧
       (t.ocb = false ↔ t.cnt ≤ t.ocrb)) ∧
    (let t : Timer16 := { resetTimer16 with
      mode := .fastPwmIcr, icr := 255, coma := .inverting, comb := .nonInverting, cnt := 255, ocra := 255, ocrb := 255, ocb := true }
     t.mode = .fastPwmIcr ∧ t.cnt ≤ t.icr ∧ t.coma = .inverting ∧ (t.oca = false ↔ t.cnt ≤ t.ocra) ∧ t.comb = .nonInverting ∧
       (t.ocb = true ↔ t.cnt ≤ t.ocrb)) := by decide

/-- Source 8 ready alone, with GIE = 1. -/
theorem witness_DispatchNeedsFlagEnableAndGie :
    let s : State := { State.reset with gie := true, flag := (perSrcConst false).set .int0 true, en := perSrcConst true }
    (∀ y, y ≠ .int0 → s.ready y = false) ∧ s.ready .int0 = true := by
  refine ⟨fun y h => ?_, by decide⟩
  cases y <;> first | rfl | exact absurd rfl h

/-- Two ready sources, the first and the last, both of which run; and two of which the earlier clears the later's enable. -/
theorem witness_DispatchNeedsFlagEnableAndGie_two :
    (let s : State := { State.reset with
       gie := true, flag := { perSrcConst false with t0Cmp := true, int2 := true }, en := perSrcConst true }
     s.gie = true ∧ srcId .t0Cmp < srcId .int2 ∧ s.ready .t0Cmp = true ∧ s.ready .int2 = true ∧
     (∀ z, z ≠ .t0Cmp → z ≠ .int2 → s.ready z = false)) ∧
    (let s : State := { State.reset with
       gie := true, flag := { perSrcConst false with t2Cmp := true, t2Ovf := true }, en := perSrcConst true
       slot := { perSrcConst .null with t2Cmp := .echoEdge }, us := ⟨true, .falling, 0, 0, 0, false, false⟩ }
     s.gie = true ∧ srcId .t2Cmp < srcId .t2Ovf ∧ s.ready .t2Cmp = true ∧ s.ready .t2Ovf = true ∧
     (∀ z, z ≠ .t2Cmp → z ≠ .t2Ovf → s.ready z = false) ∧
     (dispatchPhase exampleParams s).flag.get .t2Ovf = true) := by
  refine ⟨⟨by decide, by decide, by decide, by decide, fun z h h' => ?_⟩, by decide, by decide, by decide, by decide, fun z h h' => ?_, by decide⟩
  · cases z <;> first | rfl | exact absurd rfl h | exact absurd rfl h'
  · cases z <;> first | rfl | exact absurd rfl h | exact absurd rfl h'

theorem witness_OneDispatchPassDrainsEverySource :
    let s : State := { State.reset with gie := true, flag := perSrcConst true, en := perSrcConst true }
    s.gie = true ∧ (runAction exampleParams .null .t0Cmp s).en.get .t0Cmp = true := by decide

/-- Flags set before the cycle, among them the two that a pulse's end clears. -/
theorem witness_NoActionRunsWithGieClear :
    let s : State := { State.reset with flag := perSrcConst true }
    s.gie = false ∧ s.flag.get .t2Ovf = true ∧ s.flag.get (echoSrc exampleParams) = true ∧ s.us.pcnt ≠ 1 := by decide

/-- Every kind of command that the statement sets apart runs from reset. -/
theorem witness_SlotWriters :
    (∃ t, exec .nop State.reset = .next t) ∧ (∃ t, exec .uinit State.reset = .next t) ∧
    (∃ t, exec (.mspeed 54 50) State.reset = .next t) ∧ (∃ t, exec (.mdir 0) State.reset = .next t) :=
  ⟨⟨_, rfl⟩, ⟨_, rfl⟩, ⟨_, rfl⟩, ⟨_, rfl⟩⟩

theorem witness_CommandsWriteOnlyTheirOwnState : ∃ t, exec .nop State.reset = .next t := ⟨_, rfl⟩

theorem witness_XsenseSetsTheSensitivity :
    (Line.int2, (2 : BitVec 2)) ∈ [(Line.int0, (0 : BitVec 2)), (.int1, 1), (.int2, 2)] := by decide

theorem witness_XsenseItselfMakesNoEdge :
    Sense.anyEdge ≠ .lowLevel ∧ lineOf 0 = some .int0 ∧ lineOf 1 = some .int1 ∧ lineOf 2 = some .int2 := by decide

theorem witness_UtrigStartsOneSession :
    State.reset.us.on = false ∧ ({ State.reset with us := { State.reset.us with on := true } } : State).us.on = true := by decide

/-- A session in its measuring phase: the gate open, both expected edges, and the overflow count at the bound and below it. -/
theorem witness_EchoActions :
    ¬(State.reset.us.on = true ∧ State.reset.us.pcnt = 0) ∧
    (∀ e ∈ [Edge.rising, .falling], let u : Ultrasonic := ⟨true, e, 0, 11, 0, false, false⟩;
      u.on = true ∧ u.pcnt = 0 ∧ u.exp = e ∧ exampleParams.maxOvf.val < u.ovf.toNat + 1) ∧
    (let u : Ultrasonic := ⟨true, .rising, 0, 10, 0, false, false⟩;
      u.on = true ∧ u.pcnt = 0 ∧ u.ovf.toNat + 1 ≤ exampleParams.maxOvf.val) := by decide

/-- A session in its measuring phase, at any parameters: the echo line last seen at 1, `script` to come, the count as given. Every
source is enabled, T0's events bound to HB actions and the others to HOST_IRQ. -/
def measuringState (P : Params) (script : List Pins) (e : Edge) (ovf : BitVec 16) (cnt : BitVec 8) (psc : BitVec 10) : State :=
  { State.resetWith script with
    gie  := true
    us   := ⟨true, e, 0, ovf, 0, false, false⟩
    slot := (({ perSrcConst .hostIrq with t0Cmp := .hb .fastStop .keep, t0Ovf := .hb .cw .keep } : PerSrc Action).set
      (echoSrc P) .echoEdge).set .t2Ovf .echoOvf
    en   := perSrcConst true
    line := (State.resetWith script).line.set P.echoLine ⟨.anyEdge, true⟩
    t2   := { resetTimer8 with cs := .run P.rangingCs, cnt := cnt, psc := psc } }

theorem measuringState_measuring (P : Params) (script : List Pins) (e : Edge) (ovf : BitVec 16) (cnt : BitVec 8) (psc : BitVec 10)
    (h : psc.toNat < divisor P.rangingCs) : Measuring P (measuringState P script e ovf cnt psc) := by
  have hne : echoSrc P ≠ .t2Ovf := by unfold echoSrc; cases P.echoLine <;> decide
  refine ⟨rfl, rfl, rfl, ?_, ?_, ?_, ?_, ?_, rfl, ?_, ?_, rfl, rfl, h⟩
  · simp [measuringState]
  · simp [measuringState, hne.symm]
  · simp [measuringState]
  · simp [measuringState]
  · intro x hx hx' _
    simp only [measuringState, PerSrc.get_set, if_neg hx.symm, if_neg hx'.symm]
    cases x <;> decide
  · show (perSrcConst false).get (echoSrc P) = false
    simp
  · simp [measuringState]

theorem divisor_pos (d : ClockDiv) : 0 < divisor d := by cases d <;> decide

/-- The last levels of a script are past, and the undriven line reads 1. -/
theorem undriven_echoPin (P : Params) (e : Edge) (ovf : BitVec 16) (cnt : BitVec 8) (psc : BitVec 10) (j : Nat) :
    echoPinAt P (measuringState P [] e ovf cnt psc) j = true := by
  have h : ∀ l, undrivenPins.get l = true := by intro l; cases l <;> rfl
  simpa [echoPinAt, measuringState, State.resetWith, nextPins] using h P.echoLine

theorem witness_OverflowCountsBeforeTheEdge :
    let s := measuringState exampleParams [⟨false, true, true⟩] .falling 10 255 63
    Measuring exampleParams s ∧ s.us.exp = .falling ∧ s.us.ovf.toNat + 1 ≤ exampleParams.maxOvf.val ∧ s.t2.cnt = 255 ∧
    s.t2.psc.toNat + 1 = divisor exampleParams.rangingCs ∧
    echoPinAt exampleParams s 0 ≠ (s.line.get exampleParams.echoLine).prev :=
  ⟨measuringState_measuring _ _ _ _ _ _ (by decide), by decide⟩

theorem witness_TriggerPulseLastsTrigCycles : State.reset.agenda = [] ∧ State.reset.us.on = false := by decide

theorem witness_SessionWithoutEchoTimesOut :
    let s := measuringState Config.params [] .rising 0 0 0
    s.agenda = [] ∧ Measuring Config.params s ∧ rangingCycles Config.params s = 0 ∧
    ∀ j, j < timeoutCycles Config.params → echoPinAt Config.params s j = (s.line.get Config.params.echoLine).prev := by
  refine ⟨rfl, measuringState_measuring _ _ _ _ _ _ (divisor_pos _), ?_, fun j _ => ?_⟩
  · simp [rangingCycles, measuringState, resetTimer8]
  · rw [undriven_echoPin]; simp [measuringState]

/-- An echo of one cycle, with the edges in the next cycle and the one after. -/
theorem witness_EchoMeasuresTheEdgeDistance :
    let s := measuringState Config.params [⟨false, false, false⟩] .rising 0 0 0
    s.agenda = [] ∧ Measuring Config.params s ∧ s.us.exp = .rising ∧
    rangingCycles Config.params s + 1 < timeoutCycles Config.params ∧ 0 < 1 ∧
    echoPinAt Config.params s 0 ≠ (s.line.get Config.params.echoLine).prev ∧
    (∀ j, 0 < j → j < 1 → echoPinAt Config.params s j = echoPinAt Config.params s 0) ∧
    echoPinAt Config.params s 1 ≠ echoPinAt Config.params s 0 ∧
    1 + divisor Config.params.rangingCs ≤ timeoutCycles Config.params := by
  have hd := divisor_pos Config.params.rangingCs
  have hT : 256 * divisor Config.params.rangingCs ≤ timeoutCycles Config.params := by
    unfold timeoutCycles
    exact Nat.mul_le_mul_right _ (by omega)
  have h0 : echoPinAt Config.params (measuringState Config.params [⟨false, false, false⟩] .rising 0 0 0) 0 = false := by
    unfold echoPinAt; cases Config.params.echoLine <;> rfl
  have h1 : echoPinAt Config.params (measuringState Config.params [⟨false, false, false⟩] .rising 0 0 0) 1 = true := by
    unfold echoPinAt; cases Config.params.echoLine <;> rfl
  refine ⟨rfl, measuringState_measuring _ _ _ _ _ _ hd, rfl, ?_, by decide, ?_, fun j h h' => absurd h' (by omega), ?_, by omega⟩
  · have : rangingCycles Config.params (measuringState Config.params [⟨false, false, false⟩] .rising 0 0 0) = 0 := by
      simp [rangingCycles, measuringState, resetTimer8]
    rw [this]; omega
  · rw [h0]; simp [measuringState]
  · rw [h0, h1]; decide

/-- A session that begins in a step; one that UINIT ends. -/
theorem witness_SessionTransitions :
    (let s := submit 0xA4000000 State.reset
     ∃ t, step s = .next t ∧ s.us.on = false ∧ t.us.on = true) ∧
    (let s := submit 0xA0000000 { State.reset with us := { State.reset.us with on := true } }
     ∃ t, step s = .next t ∧ s.us.on = true ∧ t.us.on = false) :=
  ⟨⟨_, rfl, rfl, rfl⟩, ⟨_, rfl, rfl, rfl⟩⟩

/-- A session that a cycle ends with the falling edge, by the enabled ECHO_SRC bound to ECHO_EDGE, at the example parameters. -/
theorem witness_SessionTransitions_echo :
    let s := measuringState exampleParams [⟨false, true, true⟩] .falling 0 5 0
    s.us.on = true ∧ s.gie = true ∧ (clockCycle exampleParams s).us.on = false ∧ (clockCycle exampleParams s).us.resTo = false ∧
    s.en.get .int0 = true ∧ s.slot.get .int0 = .echoEdge ∧
    (samplePhase (nextPins s.env) (pulsePhase exampleParams (tickPhase s))).flag.get .int0 = true := by decide

/-- A session that a cycle ends by timeout, by the enabled RT_OVF bound to ECHO_OVF, at the example parameters. -/
theorem witness_SessionTransitions_timeout :
    let s := measuringState exampleParams [] .rising 11 255 63
    s.us.on = true ∧ (clockCycle exampleParams s).us.on = false ∧ (clockCycle exampleParams s).us.resTo = true ∧
    s.en.get .t2Ovf = true ∧ s.slot.get .t2Ovf = .echoOvf ∧
    (samplePhase (nextPins s.env) (pulsePhase exampleParams (tickPhase s))).flag.get .t2Ovf = true := by decide

/-- The three clauses of the PULSE phase at their boundary counts. -/
theorem witness_PulseEndStartsTheMeasurement_phase :
    State.reset.us.pcnt = 0 ∧ ({ State.reset with us := ⟨true, .rising, 1, 0, 0, false, true⟩ } : State).us.pcnt = 1 ∧
    1 < ({ State.reset with us := ⟨true, .rising, 2, 0, 0, false, true⟩ } : State).us.pcnt.toNat := by decide

/-- The last cycle of a pulse with a quiet echo line, at any parameters. -/
theorem witness_PulseEndStartsTheMeasurement_cycle (P : Params) :
    let s : State := { measuringState P [] .rising 0 0 0 with us := ⟨true, .rising, 1, 0, 0, false, true⟩ }
    s.gie = true ∧ s.us.on = true ∧ s.us.pcnt = 1 ∧ s.slot.get .t2Ovf = .echoOvf ∧ s.slot.get (echoSrc P) = .echoEdge ∧
    s.en.get (echoSrc P) = true ∧ NoOtherEchoAction P s ∧
    (s.line.get P.echoLine).sense = .anyEdge ∧ echoPinAt P s 0 = (s.line.get P.echoLine).prev := by
  have hm := measuringState_measuring P [] .rising 0 0 0 (divisor_pos _)
  refine ⟨rfl, rfl, rfl, hm.ovfSlot, hm.echoSlot, hm.echoEn, hm.others, hm.sense, ?_⟩
  exact (undriven_echoPin P .rising 0 0 0 0).trans (by simp [measuringState])

/-- Every source enabled, with no echo action but those UINIT binds, and the undriven echo line standing still. -/
theorem witness_PulseEndStartsTheMeasurement :
    let s := measuringState Config.params [] .rising 0 0 0
    s.agenda = [] ∧ NoOtherEchoAction Config.params s ∧
    ∀ j, j < Config.params.trigCycles → echoPinAt Config.params s j = echoPinAt Config.params s 0 :=
  ⟨rfl, (measuringState_measuring Config.params [] .rising 0 0 0 (divisor_pos _)).others, fun j _ => by rw [undriven_echoPin, undriven_echoPin]⟩

theorem witness_MdirDrivesInSameSpeed :
    let s : State := { State.reset with mc := ⟨.same, .forward, false, 1, 0⟩ }
    State.reset.mc.smode = .same ∧ State.reset.mc.p1 = 0 ∧ s.mc.smode = .same ∧ s.mc.p1 ≠ 0 := by decide

theorem witness_MdirDrivesInDifferentSpeeds :
    ({ State.reset with mc := ⟨.different, .forward, false, 100, 0⟩ } : State).mc.smode = .different := by decide

theorem witness_MspeedStoresOrRestarts :
    (100 : BitVec 7).toNat ≤ 100 ∧ (0 : BitVec 7).toNat ≤ 100 ∧ State.reset.mc.active = false ∧
    ({ State.reset with mc := ⟨.same, .left, true, 1, 2⟩ } : State).mc.active = true := by decide

/-- After MSTOP from reset no slot holds an HB action; and in DIFFERENT_SPEEDS the statement's other clause applies. -/
theorem witness_StoppedMotorsStayStopped :
    (let t := mstopSeq State.reset
     ∀ x, (t.en.get x = true ∨ x = .t2Ovf) → ∀ m1 m2, t.slot.get x ≠ .hb m1 m2) ∧
    ({ State.reset with mc := ⟨.different, .forward, true, 1, 2⟩ } : State).mc.smode = .different := by
  refine ⟨fun x _ m1 m2 => ?_, by decide⟩
  have h : (mstopSeq State.reset).slot.get x = .null := by cases x <;> rfl
  rw [h]
  simp

/-- Every source of a running session is enabled, and beside T0's none has an HB action bound. -/
theorem measuringState_noOtherHbAction (P : Params) : NoOtherHbAction [.t0Cmp, .t0Ovf] (measuringState P [] .rising 0 0 0) := by
  intro x hx _ m1 m2
  simp only [measuringState, PerSrc.get_set]
  split
  · simp
  · split
    · simp
    · cases x <;> simp_all [perSrcConst, PerSrc.get]

/-- At both ends of the percentage's range, with a trigger pulse running and every source enabled. -/
theorem witness_SameSpeedWaveform :
    ∀ p ∈ [(0 : BitVec 7), 1, 100],
      let s : State := { measuringState Config.params [] .rising 0 0 0 with
        us := ⟨true, .rising, 1, 0, 0, false, true⟩, mc := ⟨.same, .forward, false, p, 0⟩ }
      s.agenda = [] ∧ s.gie = true ∧ s.mc.smode = .same ∧ s.mc.p1.toNat ≤ 100 ∧ NoOtherHbAction [.t0Cmp, .t0Ovf] s := by
  intro p hp
  have hr : p.toNat ≤ 100 := by revert p; decide
  exact ⟨rfl, rfl, rfl, hr, measuringState_noOtherHbAction Config.params⟩

/-- At both ends of the percentages' ranges. -/
theorem witness_DifferentSpeedsWaveform :
    ∀ p ∈ [(0 : BitVec 7), 1, 100], let s : State := { State.reset with gie := true, mc := ⟨.different, .forward, false, p, 100⟩ }
      s.agenda = [] ∧ s.gie = true ∧ s.mc.smode = .different ∧ s.mc.p1.toNat ≤ 100 ∧ s.mc.p2.toNat ≤ 100 ∧
      NoOtherHbAction [.t0Cmp, .t0Ovf, .t1CmpA, .t1Capt] s := by
  intro p hp
  have hr : p.toNat ≤ 100 := by revert p; decide
  have h2 : (100 : BitVec 7).toNat ≤ 100 := by decide
  refine ⟨rfl, rfl, rfl, hr, h2, fun x _ _ m1 m2 => ?_⟩
  simp [State.reset, State.resetWith]

/-- The boot sequence of R354: UINIT, MINIT DIFF, MSPEED 54, 50 and GIESET from reset, with ECHO_SRC enabled. -/
theorem witness_DifferentSpeedsWaveform_boot :
    ∃ a b c s, exec .uinit State.reset = .next a ∧ exec (.minit 1) a = .next b ∧ exec (.mspeed 54 50) b = .next c ∧
      exec .gieset c = .next s ∧ s.en.get (echoSrc Config.params) = true ∧
      s.agenda = [] ∧ s.gie = true ∧ s.mc.smode = .different ∧ s.mc.p1.toNat ≤ 100 ∧ s.mc.p2.toNat ≤ 100 ∧
      NoOtherHbAction [.t0Cmp, .t0Ovf, .t1CmpA, .t1Capt] s := by
  have hslot : ∀ x m1 m2, (uinitSeq Config.params State.reset).slot.get x ≠ .hb m1 m2 := by
    intro x m1 m2
    simp only [uinitSeq_eq, PerSrc.get_set, State.reset, State.resetWith, PerSrc.get_const]
    split
    · simp
    · split <;> simp
  refine ⟨_, _, _, _, rfl, rfl, rfl, rfl, ?_, rfl, rfl, rfl, by decide, by decide, fun x _ _ => hslot x⟩
  generalize Config.params = P at *
  obtain ⟨_, _, _, _, _, _, _, l⟩ := P
  cases l <;> rfl

/-- A state of a running session that meets the invariant, and its step. -/
theorem witness_EveryStepKeepsTheInvariant :
    let s := measuringState Config.params [] .falling 0 0 0
    s.Inv Config.params ∧ ∃ t, step s = .next t := by
  refine ⟨⟨⟨by decide, Nat.zero_le _, by decide, by decide⟩, ⟨trivial, trivial, Nat.zero_le _⟩, by decide⟩, _, rfl⟩

theorem witness_ReachableStatesKeepR49 :
    ∃ t, run 2 { State.resetWith [⟨false, true, true⟩] with agenda := [.host 0xA4000000, .clock] } = .next t := ⟨_, rfl⟩

end Sys2Proof.Tests
end

section
/-! SUPPORT. What a command can do, said once: it is rejected, or it has its effect and answers its response. -/

namespace Sys2Proof.Machine

/-- What running a command in the state `s` leaves before its response: one constructor for each command (30_encoding.md R117), with
the operands its fields select and the checks it has passed. -/
inductive CommandEffect (s : State) : Instr → State → Prop
  | nop : CommandEffect s .nop s
  | rdreg {addr v} (hv : regRead s addr = some v) : CommandEffect s (.rdreg addr) { s with temp := tempAfterRead s addr }
  | uread : CommandEffect s .uread s
  | tinit {tmr mode cs n m c} (hn : timerOf tmr = some n) (hm : timerModeOf n mode = some m) (hc : clockSelOf cs = some c) :
      CommandEffect s (.tinit tmr mode cs) (tinitSeq m c s)
  | tstop {tmr n} (hn : timerOf tmr = some n) : CommandEffect s (.tstop tmr) (stopTimer n s)
  | tsetcnt {tmr val n} (hn : timerOf tmr = some n) (hval : valFits n val = true) :
      CommandEffect s (.tsetcnt tmr val) (setCounter n val s)
  | tsetocr {tmr ch val n c} (hn : timerOf tmr = some n) (hc : channelOf n ch = some c) (hval : valFits n val = true) :
      CommandEffect s (.tsetocr tmr ch val) (setCompare c val s)
  | tseticr {tmr val} (htmr : (tmr == 1) = true) : CommandEffect s (.tseticr tmr val) { s with t1 := { s.t1 with icr := val } }
  | tsetduty {tmr ch p n c} (hn : timerOf tmr = some n) (hc : channelOf n ch = some c) (hp : isPercentage p = true) :
      CommandEffect s (.tsetduty tmr ch p) (setCompare c ((duty p).setWidth 16) s)
  | tocpin {tmr ch com n c} (hn : timerOf tmr = some n) (hc : channelOf n ch = some c) :
      CommandEffect s (.tocpin tmr ch com) (setCom c (comOf com) s)
  | evsetcb {src act x a} (hx : srcOf src = some x) (ha : actionOf act = some a) :
      CommandEffect s (.evsetcb src act) (s.setSlot x a)
  | even {src x} (hx : srcOf src = some x) : CommandEffect s (.even src) (s.setEn x true)
  | evdis {src x} (hx : srcOf src = some x) : CommandEffect s (.evdis src) (s.setEn x false)
  | evclrf {src x} (hx : srcOf src = some x) : CommandEffect s (.evclrf src) (s.setFlag x false)
  | irqack {src x} (hx : srcOf src = some x) : CommandEffect s (.irqack src) (s.setIrqp x false)
  | gieset : CommandEffect s .gieset (s.setGie true)
  | gieclr : CommandEffect s .gieclr (s.setGie false)
  | xsense {line sense i} (hi : lineOf line = some i) : CommandEffect s (.xsense line sense) (setSense i (senseOf sense) s)
  | hbset {m1 m2 c1 c2} (h1 : hbCodeOf m1 = some c1) (h2 : hbCodeOf m2 = some c2) :
      CommandEffect s (.hbset m1 m2) (hbAction c1 c2 s)
  | minit {smode} : CommandEffect s (.minit smode) (minitSeq (speedModeOf smode) s)
  | mspeed {p1 p2} (h : (isPercentage p1 && isPercentage p2) = true) :
      CommandEffect s (.mspeed p1 p2) (mspeedSeq Config.params p1 p2 s)
  | mdir {dir} : CommandEffect s (.mdir dir) (mdirSeq Config.params (directionOf dir) s)
  | mstop : CommandEffect s .mstop (mstopSeq s)
  | uinit : CommandEffect s .uinit (uinitSeq Config.params s)
  | utrig : CommandEffect s .utrig (utrigSeq Config.params s)

/-- A next state that `r` answers is the rejection of `s`, or a state with the property `R` and a response. -/
def RejectsOr (s : State) (R : State → Prop) (r : Result) : Prop :=
  ∀ t, r = .next t → (∃ e, t = s.reject e) ∨ ∃ u d, R u ∧ t = u.respond d

theorem rejectsOr_rejected (s : State) (R : State → Prop) (e : Reject) : RejectsOr s R (rejected e s) :=
  fun _ ht => .inl ⟨e, rejected_eq_next ht⟩

theorem rejectsOr_accepted {s u : State} {R : State → Prop} (d : Word) (hu : R u) : RejectsOr s R (accepted d u) :=
  fun _ ht => .inr ⟨u, d, hu, accepted_eq_next ht⟩

theorem rejectsOr_withOperand {α : Type} {o : Option α} {e : Reject} {s : State} {R : State → Prop} {k : α → Result}
    (hk : ∀ a, o = some a → RejectsOr s R (k a)) : RejectsOr s R (withOperand o e s k) := by
  rcases withOperand_cases o e s k with ⟨a, ha, h⟩ | ⟨-, h⟩ <;> rw [h]
  · exact hk a ha
  · exact rejectsOr_rejected s R e

theorem rejectsOr_require {ok : Bool} {e : Reject} {s : State} {R : State → Prop} {k : Result}
    (hk : ok = true → RejectsOr s R k) : RejectsOr s R (require ok e s k) := by
  rcases require_cases ok e s k with ⟨hok, h⟩ | ⟨-, h⟩ <;> rw [h]
  · exact hk hok
  · exact rejectsOr_rejected s R e

/-- What a command can answer (60_exceptions.md R321, 45_access.md R303): a rejection, which writes RESP only, or its effect with the
response of an accepted command. -/
theorem exec_cases (i : Instr) (s : State) : RejectsOr s (CommandEffect s i) (exec i s) := by
  cases i with
  | nop => exact rejectsOr_accepted 0 .nop
  | rdreg addr => exact rejectsOr_withOperand fun v hv => rejectsOr_accepted _ (.rdreg hv)
  | uread => exact rejectsOr_accepted _ .uread
  | tinit tmr mode cs =>
    exact rejectsOr_withOperand fun n hn => rejectsOr_withOperand fun m hm => rejectsOr_withOperand fun c hc =>
      rejectsOr_accepted 0 (.tinit hn hm hc)
  | tstop tmr => exact rejectsOr_withOperand fun n hn => rejectsOr_accepted 0 (.tstop hn)
  | tsetcnt tmr val =>
    exact rejectsOr_withOperand fun n hn => rejectsOr_require fun hval => rejectsOr_accepted 0 (.tsetcnt hn hval)
  | tsetocr tmr ch val =>
    exact rejectsOr_withOperand fun n hn => rejectsOr_withOperand fun c hc => rejectsOr_require fun hval =>
      rejectsOr_accepted 0 (.tsetocr hn hc hval)
  | tseticr tmr val => exact rejectsOr_require fun htmr => rejectsOr_accepted 0 (.tseticr htmr)
  | tsetduty tmr ch p =>
    exact rejectsOr_withOperand fun n hn => rejectsOr_withOperand fun c hc => rejectsOr_require fun hp =>
      rejectsOr_accepted 0 (.tsetduty hn hc hp)
  | tocpin tmr ch com =>
    exact rejectsOr_withOperand fun n hn => rejectsOr_withOperand fun c hc => rejectsOr_accepted 0 (.tocpin hn hc)
  | evsetcb src act =>
    exact rejectsOr_withOperand fun x hx => rejectsOr_withOperand fun a ha => rejectsOr_accepted 0 (.evsetcb hx ha)
  | even src => exact rejectsOr_withOperand fun x hx => rejectsOr_accepted 0 (.even hx)
  | evdis src => exact rejectsOr_withOperand fun x hx => rejectsOr_accepted 0 (.evdis hx)
  | evclrf src => exact rejectsOr_withOperand fun x hx => rejectsOr_accepted 0 (.evclrf hx)
  | irqack src => exact rejectsOr_withOperand fun x hx => rejectsOr_accepted 0 (.irqack hx)
  | gieset => exact rejectsOr_accepted 0 .gieset
  | gieclr => exact rejectsOr_accepted 0 .gieclr
  | xsense line sense => exact rejectsOr_withOperand fun i hi => rejectsOr_accepted 0 (.xsense hi)
  | hbset m1 m2 =>
    exact rejectsOr_withOperand fun c1 h1 => rejectsOr_withOperand fun c2 h2 => rejectsOr_accepted 0 (.hbset h1 h2)
  | minit smode => exact rejectsOr_accepted 0 .minit
  | mspeed p1 p2 => exact rejectsOr_require fun h => rejectsOr_accepted 0 (.mspeed h)
  | mdir dir => exact rejectsOr_accepted 0 .mdir
  | mstop => exact rejectsOr_accepted 0 .mstop
  | uinit => exact rejectsOr_accepted 0 .uinit
  | utrig => exact rejectsOr_accepted 0 .utrig

/-! ### The frames of the commands' procedures -/

/-- `u` has every field of `s` but the timers. -/
abbrev KeepsAllButTimers (s u : State) : Prop :=
  u.flag = s.flag ∧ u.en = s.en ∧ u.slot = s.slot ∧ u.irqp = s.irqp ∧ u.gie = s.gie ∧ u.line = s.line ∧ u.us = s.us ∧
  u.mc = s.mc ∧ u.hb1 = s.hb1 ∧ u.hb2 = s.hb2 ∧ u.temp = s.temp ∧ u.resp = s.resp ∧ u.agenda = s.agenda ∧ u.env = s.env

@[simp] theorem tinitSeq_keeps (m : TimerMode) (c : ClockSel) (s : State) : KeepsAllButTimers s (tinitSeq m c s) := by
  rw [tinitSeq_frame]; simp only [KeepsAllButTimers, and_self]

@[simp] theorem stopTimer_keeps (n : TimerId) (s : State) : KeepsAllButTimers s (stopTimer n s) := by
  rw [stopTimer_frame]; simp only [KeepsAllButTimers, and_self]

@[simp] theorem setCounter_keeps (n : TimerId) (v : BitVec 16) (s : State) : KeepsAllButTimers s (setCounter n v s) := by
  rw [setCounter_frame]; simp only [KeepsAllButTimers, and_self]

@[simp] theorem setCompare_keeps (c : Channel) (v : BitVec 16) (s : State) : KeepsAllButTimers s (setCompare c v s) := by
  rw [setCompare_frame]; simp only [KeepsAllButTimers, and_self]

@[simp] theorem setCom_keeps (c : Channel) (com : Com) (s : State) : KeepsAllButTimers s (setCom c com s) := by
  rw [setCom_frame]; simp only [KeepsAllButTimers, and_self]

/-- `u` has the fields of `s` that no procedure of the motor controller writes (44_motor_pwm.md R265 to R269). -/
abbrev KeepsAllButMotor (s u : State) : Prop :=
  u.t2 = s.t2 ∧ u.irqp = s.irqp ∧ u.gie = s.gie ∧ u.line = s.line ∧ u.us = s.us ∧ u.temp = s.temp ∧ u.resp = s.resp ∧
  u.agenda = s.agenda ∧ u.env = s.env

@[simp] theorem mstopSeq_keeps (s : State) : KeepsAllButMotor s (mstopSeq s) := by
  rw [mstopSeq_frame]; simp only [KeepsAllButMotor, and_self]

@[simp] theorem pwmStart_keeps (P : Params) (s : State) : KeepsAllButMotor s (pwmStart P s) := by
  rw [pwmStart_frame]; simp only [KeepsAllButMotor, and_self]

@[simp] theorem mstopSeq_mc (s : State) : (mstopSeq s).mc = { s.mc with active := false } := by rw [mstopSeq_frame]

@[simp] theorem pwmStart_mc (P : Params) (s : State) : (pwmStart P s).mc = s.mc := by rw [pwmStart_frame]

@[simp] theorem mstopSeq_flag (s : State) : (mstopSeq s).flag = s.flag := by rw [mstopSeq_frame]

@[simp] theorem minitSeq_keeps (m : SpeedMode) (s : State) : KeepsAllButMotor s (minitSeq m s) := by
  simp [KeepsAllButMotor, minitSeq]

@[simp] theorem minitSeq_flag (m : SpeedMode) (s : State) : (minitSeq m s).flag = s.flag := by simp [minitSeq]

@[simp] theorem mdirSeq_keeps (P : Params) (d : Direction) (s : State) : KeepsAllButMotor s (mdirSeq P d s) := by
  simp [KeepsAllButMotor, mdirSeq]

@[simp] theorem mdirSeq_mc (P : Params) (d : Direction) (s : State) :
    (mdirSeq P d s).mc = { s.mc with dir := d, active := true } := by
  simp [mdirSeq]

/-- What MSPEED's effect can be (R268): the two speeds stored, and a restart where a direction is driven. -/
theorem mspeedSeq_cases (P : Params) (p1 p2 : BitVec 7) (s : State) :
    (s.mc.active = false ∧ mspeedSeq P p1 p2 s = { s with mc := { s.mc with p1 := p1, p2 := p2 } }) ∨
    (s.mc.active = true ∧
      mspeedSeq P p1 p2 s = mdirSeq P s.mc.dir { s with mc := { s.mc with p1 := p1, p2 := p2 } }) := by
  cases h : s.mc.active
  · exact .inl ⟨rfl, by simp [mspeedSeq, h]⟩
  · exact .inr ⟨rfl, by simp [mspeedSeq, mdirSeq, h]⟩

@[simp] theorem mspeedSeq_keeps (P : Params) (p1 p2 : BitVec 7) (s : State) : KeepsAllButMotor s (mspeedSeq P p1 p2 s) := by
  rcases mspeedSeq_cases P p1 p2 s with ⟨-, h⟩ | ⟨-, h⟩ <;> simp [KeepsAllButMotor, h]

end Sys2Proof.Machine
end

section
/-! SUPPORT. Which command writes which part of the state (O34): for each part, its writers are the named cases and every other
command keeps it. -/

namespace Sys2Proof.Machine

@[simp] theorem setSense_keeps (i : Line) (m : Sense) (s : State) :
    (setSense i m s).t2 = s.t2 ∧ (setSense i m s).irqp = s.irqp ∧ (setSense i m s).gie = s.gie ∧ (setSense i m s).us = s.us ∧
    (setSense i m s).mc = s.mc ∧ (setSense i m s).hb1 = s.hb1 ∧ (setSense i m s).hb2 = s.hb2 ∧ (setSense i m s).temp = s.temp ∧
    (setSense i m s).agenda = s.agenda ∧ (setSense i m s).env = s.env := by
  simp [setSense_eq]

@[simp] theorem hbAction_keeps (m1 m2 : HbCode) (s : State) :
    (hbAction m1 m2 s).t2 = s.t2 ∧ (hbAction m1 m2 s).flag = s.flag ∧ (hbAction m1 m2 s).irqp = s.irqp ∧
    (hbAction m1 m2 s).gie = s.gie ∧ (hbAction m1 m2 s).line = s.line ∧ (hbAction m1 m2 s).us = s.us ∧
    (hbAction m1 m2 s).mc = s.mc ∧ (hbAction m1 m2 s).temp = s.temp ∧ (hbAction m1 m2 s).agenda = s.agenda ∧
    (hbAction m1 m2 s).env = s.env := by
  simp [hbAction]

@[simp] theorem uinitSeq_keeps (P : Params) (s : State) :
    (uinitSeq P s).irqp = s.irqp ∧ (uinitSeq P s).gie = s.gie ∧ (uinitSeq P s).mc = s.mc ∧ (uinitSeq P s).hb1 = s.hb1 ∧
    (uinitSeq P s).hb2 = s.hb2 ∧ (uinitSeq P s).temp = s.temp ∧ (uinitSeq P s).agenda = s.agenda ∧
    (uinitSeq P s).env = s.env := by
  simp [uinitSeq_eq]

@[simp] theorem utrigSeq_keeps (P : Params) (s : State) :
    (utrigSeq P s).t0 = s.t0 ∧ (utrigSeq P s).t1 = s.t1 ∧ (utrigSeq P s).t2 = s.t2 ∧ (utrigSeq P s).flag = s.flag ∧
    (utrigSeq P s).irqp = s.irqp ∧ (utrigSeq P s).gie = s.gie ∧ (utrigSeq P s).line = s.line ∧ (utrigSeq P s).mc = s.mc ∧
    (utrigSeq P s).hb1 = s.hb1 ∧ (utrigSeq P s).hb2 = s.hb2 ∧ (utrigSeq P s).temp = s.temp ∧
    (utrigSeq P s).agenda = s.agenda ∧ (utrigSeq P s).env = s.env := by
  rcases utrigSeq_cases P s with ⟨-, h⟩ | ⟨-, h⟩ <;> simp [h]

/-- Clearing one flag sets none. -/
theorem PerSrc.get_of_get_set_false {p : PerSrc Bool} {y : Src} (x : Src) (h : (p.set x false).get y = true) :
    p.get y = true := by
  rw [PerSrc.get_set] at h
  split at h
  · cases h
  · exact h

/-- `PWM_START` clears flags and sets none (44_motor_pwm.md R265). -/
theorem pwmStart_flag_le (P : Params) (s : State) (x : Src) (h : (pwmStart P s).flag.get x = true) : s.flag.get x = true := by
  have same (h : (pwmStartSame P s).flag.get x = true) : s.flag.get x = true := by
    rcases pwmStartSame_cases P s with ⟨-, e⟩ | ⟨-, e⟩ <;> rw [e] at h
    · exact h
    · exact PerSrc.get_of_get_set_false .t0Cmp (PerSrc.get_of_get_set_false .t0Ovf h)
  have motor1 (h : (pwmStartMotor1 P s).flag.get x = true) : s.flag.get x = true := by
    rcases pwmStartMotor1_cases P s with ⟨-, e⟩ | ⟨-, e⟩ <;> rw [e] at h
    · exact h
    · exact PerSrc.get_of_get_set_false .t1CmpA (PerSrc.get_of_get_set_false .t1Capt h)
  have motor2 {s : State} (h : (pwmStartMotor2 P s).flag.get x = true) : s.flag.get x = true := by
    rcases pwmStartMotor2_cases P s with ⟨-, e⟩ | ⟨-, e⟩ <;> rw [e] at h
    · exact h
    · exact PerSrc.get_of_get_set_false .t0Cmp (PerSrc.get_of_get_set_false .t0Ovf h)
  cases hm : s.mc.smode <;> simp only [pwmStart, hm] at h
  · exact same h
  · exact motor1 (motor2 h)

theorem mdirSeq_flag_le (P : Params) (d : Direction) (s : State) (x : Src) (h : (mdirSeq P d s).flag.get x = true) :
    s.flag.get x = true := by
  simpa using pwmStart_flag_le P _ x h

theorem mspeedSeq_flag_le (P : Params) (p1 p2 : BitVec 7) (s : State) (x : Src)
    (h : (mspeedSeq P p1 p2 s).flag.get x = true) : s.flag.get x = true := by
  rcases mspeedSeq_cases P p1 p2 s with ⟨-, e⟩ | ⟨-, e⟩ <;> rw [e] at h
  · exact h
  · exact (mdirSeq_flag_le P _ _ x h :)

namespace CommandEffect

variable {i : Instr} {s u : State}

theorem agenda_eq (h : CommandEffect s i u) : u.agenda = s.agenda := by cases h <;> simp

theorem env_eq (h : CommandEffect s i u) : u.env = s.env := by cases h <;> simp

theorem gie_eq (h : CommandEffect s i u) (hset : i ≠ .gieset) (hclr : i ≠ .gieclr) : u.gie = s.gie := by
  cases h with
  | gieset => exact absurd rfl hset
  | gieclr => exact absurd rfl hclr
  | _ => simp

theorem irqp_eq (h : CommandEffect s i u) (hack : ∀ x, i ≠ .irqack x) : u.irqp = s.irqp := by
  cases h with
  | irqack => exact absurd rfl (hack _)
  | _ => simp

theorem temp_eq (h : CommandEffect s i u) (hrd : ∀ a, i ≠ .rdreg a) : u.temp = s.temp := by
  cases h with
  | rdreg => exact absurd rfl (hrd _)
  | _ => simp

/-- No command sets a flag: those that write flags clear them. -/
theorem flag_le (h : CommandEffect s i u) (x : Src) (hx : u.flag.get x = true) : s.flag.get x = true := by
  cases h with
  | evclrf => exact PerSrc.get_of_get_set_false _ hx
  | xsense => exact PerSrc.get_of_get_set_false _ hx
  | mspeed => exact mspeedSeq_flag_le _ _ _ s x hx
  | mdir => exact mdirSeq_flag_le _ _ s x hx
  | uinit => rw [uinitSeq_eq] at hx; exact PerSrc.get_of_get_set_false _ hx
  | _ => simpa using hx

theorem flag_eq (h : CommandEffect s i u) (hclrf : ∀ x, i ≠ .evclrf x) (hxs : ∀ a m, i ≠ .xsense a m) (hui : i ≠ .uinit)
    (hms : ∀ p q, i ≠ .mspeed p q) (hmd : ∀ d, i ≠ .mdir d) : u.flag = s.flag := by
  cases h with
  | evclrf => exact absurd rfl (hclrf _)
  | xsense => exact absurd rfl (hxs _ _)
  | uinit => exact absurd rfl hui
  | mspeed => exact absurd rfl (hms _ _)
  | mdir => exact absurd rfl (hmd _)
  | _ => simp

theorem line_eq (h : CommandEffect s i u) (hxs : ∀ a m, i ≠ .xsense a m) (hui : i ≠ .uinit) : u.line = s.line := by
  cases h with
  | xsense => exact absurd rfl (hxs _ _)
  | uinit => exact absurd rfl hui
  | _ => simp

theorem us_eq (h : CommandEffect s i u) (hui : i ≠ .uinit) (hut : i ≠ .utrig) : u.us = s.us := by
  cases h with
  | uinit => exact absurd rfl hui
  | utrig => exact absurd rfl hut
  | _ => simp

/-- No command writes a result: UINIT and UTRIG keep it too (43_ultrasonic.md R222, R223). -/
theorem result_eq (h : CommandEffect s i u) : u.us.resTicks = s.us.resTicks ∧ u.us.resTo = s.us.resTo := by
  cases h with
  | uinit => simp [uinitSeq_eq]
  | utrig => rcases utrigSeq_cases Config.params s with ⟨-, e⟩ | ⟨-, e⟩ <;> simp [e]
  | _ => simp

theorem mc_eq (h : CommandEffect s i u) (hmi : ∀ m, i ≠ .minit m) (hms : ∀ p q, i ≠ .mspeed p q) (hmd : ∀ d, i ≠ .mdir d)
    (hst : i ≠ .mstop) : u.mc = s.mc := by
  cases h with
  | minit => exact absurd rfl (hmi _)
  | mspeed => exact absurd rfl (hms _ _)
  | mdir => exact absurd rfl (hmd _)
  | mstop => exact absurd rfl hst
  | _ => simp

theorem hb_eq (h : CommandEffect s i u) (hhb : ∀ a b, i ≠ .hbset a b) (hmi : ∀ m, i ≠ .minit m)
    (hms : ∀ p q, i ≠ .mspeed p q) (hmd : ∀ d, i ≠ .mdir d) (hst : i ≠ .mstop) : u.hb1 = s.hb1 ∧ u.hb2 = s.hb2 := by
  cases h with
  | hbset => exact absurd rfl (hhb _ _)
  | minit => exact absurd rfl (hmi _)
  | mspeed => exact absurd rfl (hms _ _)
  | mdir => exact absurd rfl (hmd _)
  | mstop => exact absurd rfl hst
  | _ => simp

theorem t2_eq (h : CommandEffect s i u) (hti : ∀ a m c, i ≠ .tinit a m c) (hts : ∀ a, i ≠ .tstop a)
    (hcnt : ∀ a v, i ≠ .tsetcnt a v) (hocr : ∀ a c v, i ≠ .tsetocr a c v) (hduty : ∀ a c p, i ≠ .tsetduty a c p)
    (hpin : ∀ a c m, i ≠ .tocpin a c m) (hui : i ≠ .uinit) : u.t2 = s.t2 := by
  cases h with
  | tinit => exact absurd rfl (hti _ _ _)
  | tstop => exact absurd rfl (hts _)
  | tsetcnt => exact absurd rfl (hcnt _ _)
  | tsetocr => exact absurd rfl (hocr _ _ _)
  | tsetduty => exact absurd rfl (hduty _ _ _)
  | tocpin => exact absurd rfl (hpin _ _ _)
  | uinit => exact absurd rfl hui
  | _ => simp

end CommandEffect

/-- Settles O34: a rejection writes RESP only, and an effect keeps each part of the state that is not its own. -/
theorem commandsWriteOnlyTheirOwnState : Obligations.CommandsWriteOnlyTheirOwnState := by
  intro i s t ht
  rcases exec_cases i s t ht with ⟨e, rfl⟩ | ⟨u, d, h, rfl⟩
  · simp
  · exact ⟨h.agenda_eq, h.env_eq, h.gie_eq, h.irqp_eq, h.temp_eq, h.flag_le, h.flag_eq, h.line_eq, h.us_eq, h.result_eq,
      h.mc_eq, h.hb_eq, h.t2_eq⟩

end Sys2Proof.Machine
end

section
/-! SUPPORT. The invariant of 10_state.md R49, 40_timer.md R160 and the pulse phase (O57 to O59), read part by part: the session is
in one of three phases, the percentages are in range, the prescalers are in range. -/

namespace Sys2Proof.Machine

/-- The three phases of the echo accumulator (43_ultrasonic.md R220, R230 to R232): no session, the trigger pulse of a session, and
the measurement after it. -/
inductive SessionPhase (P : Params) (u : Ultrasonic) : Prop
  | off (on : u.on = false) (pcnt : u.pcnt = 0) (trig : u.trig = false) (exp : u.exp = .rising) (ovf : u.ovf = 0)
  | pulse (on : u.on = true) (pcnt : u.pcnt ≠ 0) (trig : u.trig = true) (exp : u.exp = .rising) (ovf : u.ovf = 0)
  | measuring (on : u.on = true) (pcnt : u.pcnt = 0) (trig : u.trig = false) (ovf : u.ovf.toNat ≤ P.maxOvf.val)

/-- Both speeds are percentages (R49 (d)). -/
def SpeedsInRange (m : Motor) : Prop := m.p1.toNat ≤ 100 ∧ m.p2.toNat ≤ 100

/-- The session's clauses of the invariant say that it is in one of its phases. -/
theorem inv_iff {P : Params} {s : State} :
    s.Inv P ↔ SessionPhase P s.us ∧ SpeedsInRange s.mc ∧ s.PrescalerInv := by
  have pcnt_pos : 0 < s.us.pcnt.toNat ↔ s.us.pcnt ≠ 0 := by
    rw [Nat.pos_iff_ne_zero, ne_eq, ne_eq, ← BitVec.toNat_inj]; rfl
  simp only [State.Inv, State.SessionInv, State.PulseInv, pcnt_pos]
  constructor
  · rintro ⟨⟨hoff, hovf, hpulse, hspeeds⟩, hpsc, htrig, hexp⟩
    refine ⟨?_, hspeeds, hpsc⟩
    by_cases hp : s.us.pcnt = 0
    · have ht : s.us.trig = false := Bool.eq_false_iff.2 fun h => htrig h hp
      cases hon : s.us.on
      · obtain ⟨hexp, hovf, -⟩ := hoff hon
        exact .off hon hp ht hexp hovf
      · exact .measuring hon hp ht hovf
    · obtain ⟨hon, ht⟩ := hpulse hp
      obtain ⟨he, ho⟩ := hexp hp
      exact .pulse hon hp ht he ho
  · rintro ⟨hphase, hspeeds, hpsc⟩
    cases hphase with
    | off on pcnt trig exp ovf => simpa [on, pcnt, trig, exp, ovf] using ⟨hspeeds, hpsc⟩
    | pulse on pcnt trig exp ovf => simpa [on, pcnt, trig, exp, ovf] using ⟨hspeeds, hpsc, pcnt⟩
    | measuring on pcnt trig ovf => simpa [on, pcnt, trig, ovf] using ⟨hspeeds, hpsc⟩

/-! ### The prescalers -/

/-- A prescaler that restarts is in range. -/
theorem prescalerInRange_zero (cs : ClockSel) : prescalerInRange cs 0 := by
  cases cs with
  | stop => trivial
  | run d => exact Nat.zero_le _

/-- A prescaler is in range after every cycle. -/
theorem prescalerInRange_next (cs : ClockSel) (psc : BitVec 10) : prescalerInRange cs (prescalerNext cs psc) := by
  cases cs with
  | stop => trivial
  | run d => exact prescalerNext_le d psc

theorem tickPhase_prescalerInv (s : State) : (tickPhase s).PrescalerInv := by
  simp only [State.PrescalerInv, tickPhase_t0, tickPhase_t1, tickPhase_t2, clock8_cs, clock8_psc, clock16_cs, clock16_psc]
  exact ⟨prescalerInRange_next _ _, prescalerInRange_next _ _, prescalerInRange_next _ _⟩

theorem tinitSeq_prescalerInv (m : TimerMode) (c : ClockSel) {s : State} (h : s.PrescalerInv) :
    (tinitSeq m c s).PrescalerInv := by
  obtain ⟨h0, h1, h2⟩ := h
  cases m with
  | t0 m => exact ⟨prescalerInRange_zero c, h1, h2⟩
  | t1 m => exact ⟨h0, prescalerInRange_zero c, h2⟩
  | t2 m => exact ⟨h0, h1, prescalerInRange_zero c⟩

theorem stopTimer_prescalerInv (n : TimerId) {s : State} (h : s.PrescalerInv) : (stopTimer n s).PrescalerInv := by
  obtain ⟨h0, h1, h2⟩ := h
  cases n with
  | t0 => exact ⟨trivial, h1, h2⟩
  | t1 => exact ⟨h0, trivial, h2⟩
  | t2 => exact ⟨h0, h1, trivial⟩

theorem mstopSeq_prescalerInv {s : State} (h : s.PrescalerInv) : (mstopSeq s).PrescalerInv := by
  obtain ⟨-, h1, h2⟩ := h
  cases hm : s.mc.smode
  · rw [mstopSeq_same hm]; exact ⟨trivial, h1, h2⟩
  · rw [mstopSeq_different hm]; exact ⟨trivial, trivial, h2⟩

theorem pwmStart_prescalerInv (P : Params) {s : State} (h : s.PrescalerInv) : (pwmStart P s).PrescalerInv := by
  obtain ⟨h0, h1, h2⟩ := h
  have same : (pwmStartSame P s).PrescalerInv := by
    rcases pwmStartSame_cases P s with ⟨-, e⟩ | ⟨-, e⟩ <;> rw [e]
    · exact ⟨h0, h1, h2⟩
    · exact ⟨prescalerInRange_zero _, h1, h2⟩
  have motor1 : (pwmStartMotor1 P s).PrescalerInv := by
    rcases pwmStartMotor1_cases P s with ⟨-, e⟩ | ⟨-, e⟩ <;> rw [e]
    · exact ⟨h0, h1, h2⟩
    · exact ⟨h0, prescalerInRange_zero _, h2⟩
  have motor2 {s : State} (h : s.PrescalerInv) : (pwmStartMotor2 P s).PrescalerInv := by
    rcases pwmStartMotor2_cases P s with ⟨-, e⟩ | ⟨-, e⟩ <;> rw [e]
    · exact h
    · exact ⟨prescalerInRange_zero _, h.2⟩
  cases hm : s.mc.smode <;> simp only [pwmStart, hm]
  · exact same
  · exact motor2 motor1

theorem mdirSeq_prescalerInv (P : Params) (d : Direction) {s : State} (h : s.PrescalerInv) : (mdirSeq P d s).PrescalerInv :=
  pwmStart_prescalerInv P (mstopSeq_prescalerInv h)

/-! ### The commands -/

/-- The pulse has at least one cycle (P7), and its length fits PCNT. -/
theorem trigCycles_ne_zero (P : Params) : BitVec.ofNat 32 P.trigCycles ≠ 0 := by
  have h : P.trigCycles < 2 ^ 32 := Nat.succ_lt_succ P.trigCyclesPred.isLt
  rw [ne_eq, ← BitVec.toNat_inj, BitVec.toNat_ofNat, Nat.mod_eq_of_lt h]
  exact Nat.succ_ne_zero _

namespace CommandEffect

variable {i : Instr} {s u : State}

/-- UINIT ends a session, UTRIG begins one from OFF; no other command touches it. -/
theorem keeps_sessionPhase (h : CommandEffect s i u) (hs : SessionPhase Config.params s.us) :
    SessionPhase Config.params u.us := by
  cases h with
  | uinit => rw [uinitSeq_eq]; exact .off rfl rfl rfl rfl rfl
  | utrig =>
    rcases utrigSeq_cases Config.params s with ⟨-, e⟩ | ⟨hoff, e⟩ <;> rw [e]
    · exact hs
    · cases hs with
      | off _ _ _ hexp hovf => exact .pulse rfl (trigCycles_ne_zero _) rfl hexp hovf
      | pulse hon => simp [hon] at hoff
      | measuring hon => simp [hon] at hoff
  | _ => simpa using hs

/-- MINIT clears the speeds, MSPEED checks those it stores, and no other command writes one. -/
theorem keeps_speedsInRange (h : CommandEffect s i u) (hs : SpeedsInRange s.mc) : SpeedsInRange u.mc := by
  cases h with
  | minit => exact ⟨Nat.zero_le _, Nat.zero_le _⟩
  | @mspeed p1 p2 hp =>
    have hp' : p1.toNat ≤ 100 ∧ p2.toNat ≤ 100 := by simpa [isPercentage] using hp
    rcases mspeedSeq_cases Config.params p1 p2 s with ⟨-, e⟩ | ⟨-, e⟩ <;> rw [e]
    · exact hp'
    · rw [mdirSeq_mc]; exact hp'
  | mdir => rw [mdirSeq_mc]; exact hs
  | mstop => rw [mstopSeq_mc]; exact hs
  | _ => simpa using hs

theorem keeps_prescalerInv (h : CommandEffect s i u) (hs : s.PrescalerInv) : u.PrescalerInv := by
  cases h with
  | tinit => exact tinitSeq_prescalerInv _ _ hs
  | tstop => exact stopTimer_prescalerInv _ hs
  | @tsetcnt _ _ n => cases n <;> exact hs
  | @tsetocr _ _ _ _ c => cases c <;> exact hs
  | @tsetduty _ _ _ _ c => cases c <;> exact hs
  | @tocpin _ _ _ _ c => cases c <;> exact hs
  | minit => exact mstopSeq_prescalerInv hs
  | @mspeed p1 p2 =>
    rcases mspeedSeq_cases Config.params p1 p2 s with ⟨-, e⟩ | ⟨-, e⟩ <;> rw [e]
    · exact hs
    · exact mdirSeq_prescalerInv _ _ hs
  | mdir => exact mdirSeq_prescalerInv _ _ hs
  | mstop => exact mstopSeq_prescalerInv hs
  | uinit => obtain ⟨h0, h1, -⟩ := hs; rw [uinitSeq_eq]; exact ⟨h0, h1, trivial⟩
  | utrig => simpa [State.PrescalerInv] using hs
  | _ => exact hs

theorem keeps_inv (h : CommandEffect s i u) (hs : s.Inv Config.params) : u.Inv Config.params := by
  obtain ⟨hphase, hspeeds, hpsc⟩ := inv_iff.1 hs
  exact inv_iff.2 ⟨h.keeps_sessionPhase hphase, h.keeps_speedsInRange hspeeds, h.keeps_prescalerInv hpsc⟩

end CommandEffect

/-! ### The cycle -/

theorem pulsePhase_keeps_inv {P : Params} {s : State} (h : s.Inv P) : (pulsePhase P s).Inv P := by
  obtain ⟨hphase, hspeeds, h0, h1, h2⟩ := inv_iff.1 h
  rcases pulsePhase_cases P s with ⟨-, e⟩ | ⟨hp, hp', e⟩ | ⟨hp, hp', e⟩
  · rwa [e]
  · rw [e, inv_iff]
    cases hphase with
    | off _ hp0 => exact absurd hp0 hp
    | pulse hon _ htrig hexp hovf => exact ⟨.pulse hon hp' htrig hexp hovf, hspeeds, h0, h1, h2⟩
    | measuring _ hp0 => exact absurd hp0 hp
  · rw [e, pulseEnd_eq, inv_iff]
    cases hphase with
    | off _ hp0 => exact absurd hp0 hp
    | pulse hon => exact ⟨.measuring hon hp' rfl (Nat.zero_le _), hspeeds, h0, h1, prescalerInRange_zero _⟩
    | measuring _ hp0 => exact absurd hp0 hp

/-- The echo actions act in the measuring phase only (43_ultrasonic.md R237, R240). -/
theorem SessionPhase.of_gate {P : Params} {u : Ultrasonic} (h : SessionPhase P u) (hg : sessionGate u = true) :
    u.on = true ∧ u.pcnt = 0 ∧ u.trig = false := by
  obtain ⟨hon, hp⟩ : u.on = true ∧ u.pcnt = 0 := by simpa [sessionGate] using hg
  cases h with
  | off hoff => simp [hon] at hoff
  | pulse _ hp' => exact absurd hp hp'
  | measuring _ _ htrig => exact ⟨hon, hp, htrig⟩

theorem echoEdge_keeps_inv {P : Params} {s : State} (h : s.Inv P) : (echoEdge s).Inv P := by
  obtain ⟨hphase, hspeeds, h0, h1, h2⟩ := inv_iff.1 h
  rcases echoEdge_cases s with ⟨-, e⟩ | ⟨hg, -, e⟩ | ⟨hg, -, e⟩
  · rwa [e]
  · obtain ⟨hon, hp, htrig⟩ := hphase.of_gate hg
    rw [e, echoRise_eq, inv_iff]
    exact ⟨.measuring hon hp htrig (Nat.zero_le _), hspeeds, h0, h1, h2⟩
  · obtain ⟨-, hp, htrig⟩ := hphase.of_gate hg
    rw [e, echoFall_eq, inv_iff]
    exact ⟨.off rfl hp htrig rfl rfl, hspeeds, h0, h1, trivial⟩

theorem echoOvf_keeps_inv {P : Params} {s : State} (h : s.Inv P) : (echoOvf P s).Inv P := by
  obtain ⟨hphase, hspeeds, h0, h1, h2⟩ := inv_iff.1 h
  rcases echoOvf_cases P s with ⟨-, e⟩ | ⟨hg, -, e⟩ | ⟨hg, hle, e⟩
  · rwa [e]
  · obtain ⟨-, hp, htrig⟩ := hphase.of_gate hg
    rw [e, timeout_eq, inv_iff]
    exact ⟨.off rfl hp htrig rfl rfl, hspeeds, h0, h1, trivial⟩
  · obtain ⟨hon, hp, htrig⟩ := hphase.of_gate hg
    have hovf : (s.us.ovf + 1).toNat ≤ P.maxOvf.val := by
      rw [BitVec.toNat_add]
      exact (Nat.mod_le _ _).trans hle
    rw [e, inv_iff]
    exact ⟨.measuring hon hp htrig hovf, hspeeds, h0, h1, h2⟩

theorem runAction_keeps_inv {P : Params} (a : Action) (x : Src) {s : State} (h : s.Inv P) : (runAction P a x s).Inv P := by
  rcases runAction_cases P a x s with e | e | ⟨-, e⟩ | ⟨-, e⟩ | ⟨m1, m2, -, e⟩ <;> rw [e]
  · exact h
  · exact h
  · exact echoEdge_keeps_inv h
  · exact echoOvf_keeps_inv h
  · exact h

theorem dispatchPhase_keeps_inv {P : Params} {s : State} (h : s.Inv P) : (dispatchPhase P s).Inv P := by
  refine dispatchPhase_induct P (fun s => s.Inv P) h fun s x hs => ?_
  rcases dispatchSource_cases P s x with ⟨-, e⟩ | ⟨-, e⟩ <;> rw [e]
  · exact hs
  · exact runAction_keeps_inv _ x hs

theorem samplePhase_keeps_inv {P : Params} (p : Pins) {s : State} (h : s.Inv P) : (samplePhase p s).Inv P := by
  rw [samplePhase_eq]
  exact h

theorem clockCycle_keeps_inv {P : Params} {s : State} (h : s.Inv P) : (clockCycle P s).Inv P := by
  obtain ⟨hphase, hspeeds, -⟩ := inv_iff.1 h
  have tick : (tickPhase s).Inv P := inv_iff.2 ⟨hphase, hspeeds, tickPhase_prescalerInv s⟩
  exact dispatchPhase_keeps_inv (samplePhase_keeps_inv (nextPins s.env) (pulsePhase_keeps_inv tick))

/-- Settles O58: a HOST step is a rejection or a command's effect, a CLOCK step is a cycle, and each keeps the invariant. -/
theorem everyStepKeepsTheInvariant : Obligations.EveryStepKeepsTheInvariant := by
  intro s t hs ht
  rcases step_cases s with ⟨w, rest, -, hstep⟩ | ⟨-, hstep⟩ <;> rw [hstep] at ht
  case inl =>
    rcases hostCommand_cases w { s with agenda := rest } with ⟨i, -, hi⟩ | ⟨e, -, he⟩
    · rw [hi] at ht
      rcases exec_cases i _ t ht with ⟨e, rfl⟩ | ⟨u, d, hu, rfl⟩
      · exact hs
      · exact hu.keeps_inv hs
    · rw [he] at ht
      cases rejected_eq_next ht
      exact hs
  case inr =>
    cases ht
    exact clockCycle_keeps_inv hs

/-- Settles O57: after reset no session runs, both speeds are 0 and every timer is stopped. -/
theorem invariantHoldsAtReset : Obligations.InvariantHoldsAtReset := fun _ _ =>
  inv_iff.2 ⟨.off rfl rfl rfl rfl rfl, ⟨Nat.zero_le _, Nat.zero_le _⟩, trivial, trivial, trivial⟩

/-- A run of `k + 1` steps is a step and a run of `k`. -/
theorem run_succ_eq_next {k : Nat} {s t : State} (h : Statements.run (k + 1) s = .next t) :
    ∃ u, step s = .next u ∧ Statements.run k u = .next t := by
  simp only [Statements.run, Host.Core.run] at h
  split at h
  case h_1 u hu => exact ⟨u, hu, h⟩
  all_goals cases h

/-- A property that every step keeps holds after any run. -/
theorem run_induct {Q : State → Prop} (hstep : ∀ s t, Q s → step s = .next t → Q t) (k : Nat) {s t : State} (hs : Q s)
    (hrun : Statements.run k s = .next t) : Q t := by
  induction k generalizing s with
  | zero => cases hrun; exact hs
  | succ k ih =>
    obtain ⟨u, hu, hrun⟩ := run_succ_eq_next hrun
    exact ih (hstep s u hs hu) hrun

/-- Settles O59: the invariant holds at reset, whatever the agenda, and every step keeps it. -/
theorem reachableStatesKeepR49 : Obligations.ReachableStatesKeepR49 := by
  intro script turns k t hrun
  have hreset : State.Inv Config.params { State.resetWith script with agenda := turns } :=
    invariantHoldsAtReset Config.params script
  obtain ⟨hsession, -, -⟩ := run_induct everyStepKeepsTheInvariant k hreset hrun
  exact hsession

end Sys2Proof.Machine
end

section
/-! SUPPORT. The TICK phase's flags and the frame of a whole cycle (O24, O32). -/

namespace Sys2Proof.Machine

/-- An event of T0 or T2 in a cycle is that event of a tick, in a cycle that ticks (40_timer.md R150). -/
@[simp] theorem clockEvents8_fields (t : Timer8) :
    (clockEvents8 t).cmp = (prescalerTicks t.cs t.psc && (tickEvents8 t).cmp) ∧
    (clockEvents8 t).ovf = (prescalerTicks t.cs t.psc && (tickEvents8 t).ovf) := by
  unfold clockEvents8
  cases prescalerTicks t.cs t.psc <;> exact ⟨rfl, rfl⟩

/-- An event of T1 in a cycle is that event of a tick, in a cycle that ticks (R150). -/
@[simp] theorem clockEvents16_fields (t : Timer16) :
    (clockEvents16 t).cmpA = (prescalerTicks t.cs t.psc && (tickEvents16 t).cmpA) ∧
    (clockEvents16 t).cmpB = (prescalerTicks t.cs t.psc && (tickEvents16 t).cmpB) ∧
    (clockEvents16 t).capt = (prescalerTicks t.cs t.psc && (tickEvents16 t).capt) ∧
    (clockEvents16 t).ovf = (prescalerTicks t.cs t.psc && (tickEvents16 t).ovf) := by
  unfold clockEvents16
  cases prescalerTicks t.cs t.psc <;> exact ⟨rfl, rfl, rfl, rfl⟩

/-- Settles O24: each timer flag becomes the OR of its old value and its event, which needs a tick. -/
theorem tickPhaseSetsTheEventFlags : Obligations.TickPhaseSetsTheEventFlags := by
  intro s
  exact ⟨by simp [tickPhase], tickPhase_eq s⟩

/-- `u` differs from `s` at most in what the PULSE phase and the DISPATCH phase may write: RT without its compare channel, the enable
of RT_OVF, FLAG, IRQP, US, HB1 and HB2 (43_ultrasonic.md R231, R235 to R239; 60_exceptions.md R327). -/
structure RtFrame (s u : State) : Prop extends DispatchFrame s u where
  ocra : u.t2.ocra = s.t2.ocra
  coma : u.t2.coma = s.t2.coma
  en   : ∀ x, x ≠ .t2Ovf → u.en.get x = s.en.get x

theorem RtFrame.refl (s : State) : RtFrame s s := ⟨.rfl' s, rfl, rfl, fun _ _ => rfl⟩

theorem RtFrame.trans {s u v : State} (h : RtFrame s u) (h' : RtFrame u v) : RtFrame s v :=
  ⟨h.toDispatchFrame.trans' h'.toDispatchFrame, h'.ocra.trans h.ocra, h'.coma.trans h.coma,
    fun x hx => (h'.en x hx).trans (h.en x hx)⟩

/-- No action writes RT's compare channel. -/
theorem runAction_t2_compare (P : Params) (a : Action) (x : Src) (s : State) :
    (runAction P a x s).t2.ocra = s.t2.ocra ∧ (runAction P a x s).t2.coma = s.t2.coma := by
  rcases runAction_cases P a x s with e | e | ⟨-, e⟩ | ⟨-, e⟩ | ⟨m1, m2, -, e⟩ <;> rw [e]
  · exact ⟨rfl, rfl⟩
  · exact ⟨rfl, rfl⟩
  · rcases echoEdge_cases s with ⟨-, e'⟩ | ⟨-, -, e'⟩ | ⟨-, -, e'⟩ <;> rw [e'] <;> exact ⟨rfl, rfl⟩
  · rcases echoOvf_cases P s with ⟨-, e'⟩ | ⟨-, -, e'⟩ | ⟨-, -, e'⟩ <;> rw [e'] <;> exact ⟨rfl, rfl⟩
  · exact ⟨rfl, rfl⟩

theorem runAction_rtFrame (P : Params) (a : Action) (x : Src) (s : State) : RtFrame s (runAction P a x s) := by
  obtain ⟨hocra, hcoma⟩ := runAction_t2_compare P a x s
  refine ⟨runAction_frame P a x s, hocra, hcoma, fun y hy => ?_⟩
  rcases runAction_en P a x s with e | e <;> rw [e]
  rw [PerSrc.get_set, if_neg hy.symm]

theorem dispatchPhase_rtFrame (P : Params) (s : State) : RtFrame s (dispatchPhase P s) := by
  refine dispatchPhase_induct P (RtFrame s) (.refl s) fun u x hu => hu.trans ?_
  rcases dispatchSource_cases P u x with ⟨-, e⟩ | ⟨-, e⟩ <;> rw [e]
  · exact .refl u
  · have clear : RtFrame u (u.setFlag x false) :=
      ⟨⟨rfl, rfl, rfl, rfl, rfl, rfl, rfl, rfl, rfl, rfl⟩, rfl, rfl, fun _ _ => rfl⟩
    exact clear.trans (runAction_rtFrame P _ x _)

theorem pulsePhase_rtFrame (P : Params) (s : State) : RtFrame s (pulsePhase P s) := by
  rcases pulsePhase_cases P s with ⟨-, e⟩ | ⟨-, -, e⟩ | ⟨-, -, e⟩ <;> rw [e]
  · exact .refl s
  · exact ⟨⟨rfl, rfl, rfl, rfl, rfl, rfl, rfl, rfl, rfl, rfl⟩, rfl, rfl, fun _ _ => rfl⟩
  · rw [pulseEnd_eq]
    exact ⟨⟨rfl, rfl, rfl, rfl, rfl, rfl, rfl, rfl, rfl, rfl⟩, rfl, rfl, fun x hx => by simp [hx.symm]⟩

/-- The SAMPLE phase writes the lines and their flags only (42_exti.md R205). -/
@[simp] theorem samplePhase_keeps (p : Pins) (s : State) :
    (samplePhase p s).t0 = s.t0 ∧ (samplePhase p s).t1 = s.t1 ∧ (samplePhase p s).t2 = s.t2 ∧ (samplePhase p s).en = s.en ∧
    (samplePhase p s).slot = s.slot ∧ (samplePhase p s).irqp = s.irqp ∧ (samplePhase p s).gie = s.gie ∧
    (samplePhase p s).us = s.us ∧ (samplePhase p s).mc = s.mc ∧ (samplePhase p s).hb1 = s.hb1 ∧
    (samplePhase p s).hb2 = s.hb2 ∧ (samplePhase p s).temp = s.temp ∧ (samplePhase p s).resp = s.resp ∧
    (samplePhase p s).agenda = s.agenda ∧ (samplePhase p s).env = s.env := by
  simp [samplePhase_eq]

/-- The SAMPLE phase keeps each line's sensitivity and stores the sample (42_exti.md R205). -/
theorem samplePhase_line_get (p : Pins) (s : State) (i : Line) :
    (samplePhase p s).line.get i = ⟨(s.line.get i).sense, p.get i⟩ := by
  rw [samplePhase_eq]; cases i <;> rfl

/-- Settles O32: PULSE and DISPATCH write within RtFrame, TICK the timers and flags, SAMPLE the lines and flags. -/
theorem clockCycleFrame : Obligations.ClockCycleFrame := by
  intro P s
  have pulse := pulsePhase_rtFrame P (tickPhase s)
  have dispatch : RtFrame (samplePhase (nextPins s.env) (pulsePhase P (tickPhase s))) (clockPhases P s) :=
    dispatchPhase_rtFrame P _
  simp +contextual [clockCycle, samplePhase_line_get, dispatch.gie, dispatch.slot, dispatch.mc, dispatch.temp, dispatch.resp,
    dispatch.agenda, dispatch.env, dispatch.line, dispatch.t0, dispatch.t1, dispatch.ocra, dispatch.coma, dispatch.en,
    pulse.gie, pulse.slot, pulse.mc, pulse.temp, pulse.resp, pulse.agenda, pulse.env, pulse.line, pulse.t0, pulse.t1,
    pulse.ocra, pulse.coma, pulse.en]

end Sys2Proof.Machine
end

section
/-! SUPPORT. Tops, outputs and reset values (O21, O55, O56). -/

namespace Sys2Proof.Machine

/-- Settles O21: each mode has its top by definition, and each of the five codes its divisor. -/
theorem topsAndDivisors : Obligations.TopsAndDivisors := by
  refine ⟨fun t => ?_, fun t => ?_, fun d code n hcode hmem => ?_, fun c => ?_⟩
  · simp +contextual [top8, counterMax]
  · simp +contextual [top16, counterMax]
  · simp only [List.mem_cons, Prod.mk.injEq, List.not_mem_nil, or_false] at hmem
    rcases hmem with ⟨rfl, rfl⟩ | ⟨rfl, rfl⟩ | ⟨rfl, rfl⟩ | ⟨rfl, rfl⟩ | ⟨rfl, rfl⟩ <;> (cases hcode; rfl)
  · cases c with
    | stop => simp [clockSelCode]
    | run d => cases d <;> simp [clockSelCode]

/-- An OC pin is driven by its latch unless its channel is disconnected (10_state.md R45). -/
theorem ocPin_eq (com : Com) (oc : Bool) : ocPin com oc = if com = .disconnect then none else some oc := by
  cases com <;> rfl

/-- IRQ is the OR over all sources (10_state.md R39). -/
theorem irq_iff (s : State) : s.irq = true ↔ ∃ x, s.irqp.get x = true := by
  simp only [State.irq, List.any_eq_true, mem_srcsInOrder, true_and]

/-- Settles O55: the latches are read as they are, the OC pins by `ocPin_eq`, IRQ by `irq_iff`. -/
theorem outputsOfAState : Obligations.OutputsOfAState := fun s =>
  ⟨rfl, rfl, rfl, ocPin_eq _ _, ocPin_eq _ _, ocPin_eq _ _, ocPin_eq _ _, irq_iff s⟩

/-- Each line's PREV is loaded from its pin (10_state.md R61). -/
theorem resetWith_line_get (script : List Pins) (i : Line) :
    (State.resetWith script).line.get i = ⟨.lowLevel, (nextPins script).get i⟩ := by
  cases i <;> rfl

/-- Settles O56: PREV is `resetWith_line_get`, the families per source are constant, and every other field is written out. -/
theorem resetValues : Obligations.ResetValues := by
  intro script
  refine ⟨?_, ⟨rfl, rfl, rfl, rfl, rfl, rfl, rfl, rfl, rfl, rfl, rfl⟩, fun x => ?_, rfl, resetWith_line_get script,
    rfl, rfl, rfl, rfl, rfl, rfl⟩
  · simp [State.resetWith, resetTimer8]
  · simp [State.resetWith]

end Sys2Proof.Machine
end

section
/-! SUPPORT. The register space (20_memory.md R84 to R86): which addresses have a byte (O12), what RDREG does with it, the TEMP latch
over clock cycles (O15), and the bytes as numbers (O14). -/

namespace Sys2Proof.Machine

/-! ### Which addresses have a byte -/

/-- The rows of the register map are the addresses R85 does not list. -/
theorem regRead_eq_none_iff (s : State) (a : Byte) : regRead s a = none ↔ addrIsReserved a = true := by
  unfold regRead
  split
  case h_48 =>
    simp only [addrIsReserved, Bool.or_eq_true, Bool.and_eq_true, beq_iff_eq, decide_eq_true_eq, true_iff, imp_false] at *
    omega
  all_goals simp [addrIsReserved, *]

theorem addrIsReserved_iff (a : Byte) :
    addrIsReserved a = true ↔
      (a = 0x03 ∨ (0x0E ≤ a ∧ a ≤ 0x0F) ∨ a = 0x13 ∨ (0x15 ≤ a ∧ a ≤ 0x17) ∨ a = 0x1F ∨ (0x2B ≤ a ∧ a ≤ 0x2F) ∨
       (0x32 ≤ a ∧ a ≤ 0x33) ∨ (0x35 ≤ a ∧ a ≤ 0x37) ∨ a = 0x3B ∨ a = 0x3F ∨ 0x43 ≤ a) := by
  simp [addrIsReserved, BitVec.le_def, ← BitVec.toNat_inj, or_assoc]

/-- RDREG of an address without a byte is rejected (45_access.md R302). -/
theorem exec_rdreg_of_none {s : State} {a : Byte} (h : regRead s a = none) :
    exec (.rdreg a) s = .next (s.reject .eAddr) := by
  change execRdreg a s = _
  rw [execRdreg, h]; rfl

/-- RDREG of an address with a byte answers it and latches TEMP (R302, 20_memory.md R86). -/
theorem exec_rdreg_of_some {s : State} {a v : Byte} (h : regRead s a = some v) :
    exec (.rdreg a) s = .next ({ s with temp := tempAfterRead s a }.respond (v.setWidth 32)) := by
  change execRdreg a s = _
  rw [execRdreg, h]; rfl

/-- Settles O12: the map's rows are the addresses R85 does not list, and RDREG rejects where there is no byte. -/
theorem reservedAddressesAreRejected : Obligations.ReservedAddressesAreRejected := fun s a =>
  ⟨(regRead_eq_none_iff s a).trans (addrIsReserved_iff a), exec_rdreg_of_none⟩

/-! ### The TEMP latch -/

/-- Bits [s+7:s] of a register, as a number. -/
theorem extractByte_toNat {w : Nat} (s : Nat) (x : BitVec w) : (x.extractLsb' s 8).toNat = x.toNat / 2 ^ s % 256 := by
  rw [BitVec.extractLsb'_toNat, Nat.shiftRight_eq_div_pow]

theorem extractLowByte_toNat {w : Nat} (x : BitVec w) : (x.extractLsb' 0 8).toNat = x.toNat % 256 := by
  rw [extractByte_toNat, pow_zero, Nat.div_one]

/-- The topmost byte of a register, as a number. -/
theorem extractTopByte_toNat (s : Nat) (x : BitVec (s + 8)) : (x.extractLsb' s 8).toNat = x.toNat / 2 ^ s := by
  rw [extractByte_toNat, Nat.mod_eq_of_lt]
  exact Nat.div_lt_of_lt_mul (by simpa [Nat.pow_add] using x.isLt)

/-- No cycle writes TEMP (R86). -/
theorem clockCycle_temp (P : Params) (s : State) : (clockCycle P s).temp = s.temp := by
  obtain ⟨-, -, -, htemp, -⟩ := clockCycleFrame P s
  exact htemp

theorem clockCycles_temp (P : Params) (k : Nat) (s : State) : (clockCycles P k s).temp = s.temp := by
  induction k generalizing s with
  | zero => rfl
  | succ k ih => rw [clockCycles_succ, ih, clockCycle_temp]

/-- The 16-bit registers of T1, each with the addresses of its low and its high byte (R84). -/
def t1Registers (s : State) : List (Byte × Byte × BitVec 16) :=
  [(0x06, 0x07, s.t1.cnt), (0x08, 0x09, s.t1.ocra), (0x0A, 0x0B, s.t1.ocrb), (0x0C, 0x0D, s.t1.icr)]

/-- The low address shows bits [7:0] and latches bits [15:8], the high address shows TEMP and keeps it (R86). -/
theorem regRead_t1Registers {s : State} {lo hi : Byte} {v : BitVec 16} (h : (lo, hi, v) ∈ t1Registers s) :
    regRead s lo = some (v.extractLsb' 0 8) ∧ tempAfterRead s lo = v.extractLsb' 8 8 ∧
    (∀ u, regRead u hi = some u.temp) ∧ ∀ u, tempAfterRead u hi = u.temp := by
  simp only [t1Registers, List.mem_cons, Prod.mk.injEq, List.not_mem_nil, or_false] at h
  rcases h with ⟨rfl, rfl, rfl⟩ | ⟨rfl, rfl, rfl⟩ | ⟨rfl, rfl, rfl⟩ | ⟨rfl, rfl, rfl⟩ <;>
    exact ⟨rfl, rfl, fun _ => rfl, fun _ => rfl⟩

/-- Settles O15: the low-byte read latches the high byte in TEMP, no cycle writes TEMP, and the high-byte read shows it. -/
theorem lowThenHighReadsOneValue : Obligations.LowThenHighReadsOneValue := by
  intro s lo hi v hmem
  obtain ⟨hlow, hlatch, hhigh, hkeep⟩ := regRead_t1Registers hmem
  refine ⟨_, exec_rdreg_of_some hlow, ?_, fun P k => ⟨_, exec_rdreg_of_some (hhigh _), ?_, ?_⟩⟩
  · rw [State.respond_resp, BitVec.toNat_setWidth_of_le (by decide), extractLowByte_toNat]
  · rw [State.respond_resp, BitVec.toNat_setWidth_of_le (by decide), clockCycles_temp, State.respond_temp, hlatch]
    exact extractTopByte_toNat 8 v
  · rw [State.respond_temp, hkeep, clockCycles_temp]

/-! ### The bytes as numbers -/

theorem append_toNat_eq_add {m n : Nat} (x : BitVec m) (y : BitVec n) : (x ++ y).toNat = x.toNat * 2 ^ n + y.toNat := by
  rw [BitVec.toNat_append, ← Nat.shiftLeft_add_eq_or_of_lt y.isLt, Nat.shiftLeft_eq]

/-- Eight bits as a byte: bit i counts 2 to the i. -/
theorem byteOfBits_toNat (b7 b6 b5 b4 b3 b2 b1 b0 : Bool) :
    (byteOfBits b7 b6 b5 b4 b3 b2 b1 b0).toNat =
      b0.toNat + 2 * b1.toNat + 4 * b2.toNat + 8 * b3.toNat + 16 * b4.toNat + 32 * b5.toNat + 64 * b6.toNat + 128 * b7.toNat := by
  simp only [byteOfBits, append_toNat_eq_add, BitVec.toNat_ofBool]
  omega

/-- A timer's CTRL byte: MODE from bit 0, CS from bit 2, COMA from bit 5. -/
theorem timerCtrl_toNat (com : BitVec 2) (cs : BitVec 3) (mode : BitVec 2) :
    (0#1 ++ com ++ cs ++ mode).toNat = mode.toNat + 4 * cs.toNat + 32 * com.toNat := by
  simp only [append_toNat_eq_add, BitVec.toNat_zero]
  omega

/-- Eight bits as a byte, bit by bit. -/
theorem byteOfBits_getLsbD (b7 b6 b5 b4 b3 b2 b1 b0 : Bool) (i : Nat) :
    (byteOfBits b7 b6 b5 b4 b3 b2 b1 b0).getLsbD i = [b0, b1, b2, b3, b4, b5, b6, b7].getD i false := by
  simp only [byteOfBits, BitVec.getLsbD_append, BitVec.getLsbD_ofBool]
  match i with
  | 0 | 1 | 2 | 3 | 4 | 5 | 6 | 7 => simp
  | i + 8 => simp

/-- The EV_FLAG_L, EV_EN_L and IRQP_L bytes: bit i is source i. -/
theorem lowSources_getLsbD (p : PerSrc Bool) (x : Src) (h : srcId x < 8) : (lowSources p).getLsbD (srcId x) = p.get x := by
  rw [lowSources, byteOfBits_getLsbD]
  cases x <;> simp [srcId, PerSrc.get] at h ⊢

/-- The EV_FLAG_H, EV_EN_H and IRQP_H bytes: bit i is source 8 + i. -/
theorem highSources_getLsbD (p : PerSrc Bool) (x : Src) (h : 8 ≤ srcId x) :
    (highSources p).getLsbD (srcId x - 8) = p.get x := by
  rw [highSources, byteOfBits_getLsbD]
  cases x <;> simp [srcId, PerSrc.get] at h ⊢

/-- The high bytes hold three sources. -/
theorem highSources_toNat_lt (p : PerSrc Bool) : (highSources p).toNat < 8 := by
  have h0 := p.int0.toNat_le
  have h1 := p.int1.toNat_le
  have h2 := p.int2.toNat_le
  simp only [highSources, byteOfBits_toNat, Bool.toNat_false]
  omega

/-- SLOT_s stands at 0x20 + s. -/
theorem regRead_slot (s : State) (x : Src) :
    regRead s (BitVec.ofNat 8 (0x20 + srcId x)) = some (actionCode (s.slot.get x)) := by
  cases x <;> rfl

/-- A byte read at an address is the byte of its row. -/
theorem eq_of_row {s : State} {a v b : Byte} (h : regRead s a = some v) (row : regRead s a = some b) : v = b :=
  Option.some.inj (h.symm.trans row)

/-- Settles O14: each row of the map is read off `regRead`, and its byte by the lemma on bytes of its shape. -/
theorem registerMapShowsTheFields : Obligations.RegisterMapShowsTheFields := by
  intro s v x
  have temp : ∀ a ∈ [(0x07 : Byte), 0x09, 0x0B, 0x0D], regRead s a = some s.temp := by simp [regRead]
  have high : ∀ a ∈ [(0x19 : Byte), 0x1B, 0x1D], ∃ p, regRead s a = some (highSources p) := by simp [regRead]
  refine ⟨fun h => eq_of_row h rfl ▸ timerCtrl_toNat _ _ _, fun h => eq_of_row h rfl, fun h => eq_of_row h rfl,
    fun h => eq_of_row h rfl ▸ timerCtrl_toNat _ _ _, ?comb, ?cnt, ?ocra, ?ocrb, ?icr, fun a ha h => eq_of_row h (temp a ha),
    fun h => eq_of_row h rfl ▸ timerCtrl_toNat _ _ _, fun h => eq_of_row h rfl, fun h => eq_of_row h rfl, ?ocState,
    fun hx => ⟨fun h => eq_of_row h rfl ▸ lowSources_getLsbD _ x hx, fun h => eq_of_row h rfl ▸ lowSources_getLsbD _ x hx,
      fun h => eq_of_row h rfl ▸ lowSources_getLsbD _ x hx⟩,
    fun hx => ⟨fun h => eq_of_row h rfl ▸ highSources_getLsbD _ x hx, fun h => eq_of_row h rfl ▸ highSources_getLsbD _ x hx,
      fun h => eq_of_row h rfl ▸ highSources_getLsbD _ x hx⟩,
    fun a ha h => ?high, ?gctrl, regRead_slot s x, ?sense, ?prev, ?hb, ?mc, ?p1, ?p2, ?us, ?ovfL, ?ovfH, ?res0, ?res1, ?res2⟩
  case high =>
    obtain ⟨p, row⟩ := high a ha
    exact eq_of_row h row ▸ highSources_toNat_lt p
  all_goals rintro ⟨⟩
  case ocState | gctrl | prev | hb | us => simp [byteOfBits_toNat, bne, beq_eq_decide]
  case comb | sense | mc | p1 | p2 =>
    simp only [append_toNat_eq_add, BitVec.toNat_zero, BitVec.toNat_ofBool]
    omega
  case cnt | ocra | ocrb | icr | ovfL | res0 => exact extractLowByte_toNat _
  case ovfH => exact extractTopByte_toNat 8 _
  case res1 => exact extractByte_toNat 8 _
  case res2 => exact extractTopByte_toNat 16 _

end Sys2Proof.Machine
end

section
/-! SUPPORT. The command encoding (30_encoding.md R100 to R119): what the decoder answers, the encoder as its inverse (O1 to O3), and
the words that the command port rejects (O4, O5). -/

namespace Sys2Proof.Machine

/-! ### What the decoder and the command port answer -/

/-- A word decodes to the command its opcode selects, if no bit under the row's zero mask is 1 (R118, R119). -/
theorem decode_eq_ok_iff {w : Word} {i : Instr} : decode w = .ok i ↔ fieldsOf w = some i ∧ w &&& zeroMaskOf i = 0 := by
  unfold decode
  cases fieldsOf w with
  | none => simp
  | some j =>
    dsimp only
    constructor
    · intro h
      split at h <;> cases h
      exact ⟨rfl, ‹_›⟩
    · rintro ⟨hj, hz⟩
      cases hj
      exact if_pos hz

theorem decode_of_fieldsOf_none {w : Word} (h : fieldsOf w = none) : decode w = .error .eOpcode := by
  rw [decode, h]

theorem decode_of_zeroMask_ne {w : Word} {i : Instr} (h : fieldsOf w = some i) (hz : w &&& zeroMaskOf i ≠ 0) :
    decode w = .error .eRsvd := by
  rw [decode, h]; exact if_neg hz

/-- A word that does not decode is rejected with the decoder's code (45_access.md R300, 60_exceptions.md R321). -/
theorem hostCommand_of_error {w : Word} {e : Reject} (h : decode w = .error e) (s : State) :
    hostCommand w s = rejected e s := by
  rw [hostCommand, h]

/-! ### Reading the fields of an encoded command -/

/-- A field inside the low part. (`no_index` lets simp see the lemma's width v + w in a Word, whose width is the numeral 32.) -/
theorem extractLsb'_append_low {v w a n : Nat} {x : BitVec v} {y : BitVec w} (h : a + n ≤ w) :
    BitVec.extractLsb' (n := no_index (v + w)) a n (x ++ y) = y.extractLsb' a n :=
  BitVec.extractLsb'_append_eq_of_add_le h

/-- A field above the low part. -/
theorem extractLsb'_append_high {v w a n : Nat} {x : BitVec v} {y : BitVec w} (h : w ≤ a) :
    BitVec.extractLsb' (n := no_index (v + w)) a n (x ++ y) = x.extractLsb' (a - w) n :=
  BitVec.extractLsb'_append_eq_of_le h

/-- The encoded command has its row's opcode and its fields in their places: in each row, reading a field of the parts side by side
skips the parts below it. -/
theorem fieldsOf_encode (i : Instr) : fieldsOf (encode i) = some i := by
  cases i <;>
    simp (disch := decide) only [encode, fieldsOf, opcodeOf, extractLsb'_append_low, extractLsb'_append_high,
      BitVec.extractLsb'_eq_self, Nat.reduceSub, BitVec.reduceToNat]

open Laws.EncodedWordIsZeroUnderMask in
/-- The laws of EncodedWordIsZeroUnderMask, one for each row, together (R119). -/
theorem encode_and_zeroMaskOf : ∀ i : Instr, encode i &&& zeroMaskOf i = 0
  | .nop => nop
  | .rdreg _ => rdreg _
  | .uread => uread
  | .tinit _ _ _ => tinit _ _ _
  | .tstop _ => tstop _
  | .tsetcnt _ _ => tsetcnt _ _
  | .tsetocr _ _ _ => tsetocr _ _ _
  | .tseticr _ _ => tseticr _ _
  | .tsetduty _ _ _ => tsetduty _ _ _
  | .tocpin _ _ _ => tocpin _ _ _
  | .evsetcb _ _ => evsetcb _ _
  | .even _ => even _
  | .evdis _ => evdis _
  | .evclrf _ => evclrf _
  | .irqack _ => irqack _
  | .gieset => gieset
  | .gieclr => gieclr
  | .xsense _ _ => xsense _ _
  | .hbset _ _ => hbset _ _
  | .minit _ => minit _
  | .mspeed _ _ => mspeed _ _
  | .mdir _ => mdir _
  | .mstop => mstop
  | .uinit => uinit
  | .utrig => utrig

/-- Settles O2: the encoded command has its own row and fields, and no 1 under its row's zero mask. -/
theorem decodeOfEncodeIsTheCommand : Obligations.DecodeOfEncodeIsTheCommand := fun i =>
  decode_eq_ok_iff.2 ⟨fieldsOf_encode i, encode_and_zeroMaskOf i⟩

/-! ### Putting a word together from its fields -/

/-- The opcode a row is selected by is the word's top field. -/
theorem ofNat_eq_opcode {w : Word} {k : Nat} (h : (opcodeOf w).toNat = k) : BitVec.ofNat 6 k = w.extractLsb' 26 6 := by
  rw [← h, BitVec.ofNat_toNat, BitVec.setWidth_eq, opcodeOf]

/-- A field followed by zeros that stand for bits under a mask is the longer field, in a word that is 0 under the mask. -/
theorem extractLsb'_append_zeros {w m : Word} {a k n : Nat} (hw : w &&& m = 0) (hn : n ≤ a)
    (hm : m.extractLsb' (a - n) n = BitVec.allOnes n) :
    w.extractLsb' a k ++ 0#n = w.extractLsb' (a - n) (k + n) := by
  have hz : w.extractLsb' (a - n) n = 0#n := by
    calc w.extractLsb' (a - n) n
        = w.extractLsb' (a - n) n &&& m.extractLsb' (a - n) n := by rw [hm, BitVec.and_allOnes]
      _ = (w &&& m).extractLsb' (a - n) n := BitVec.extractLsb'_and.symm
      _ = 0#n := by rw [hw]; exact BitVec.extractLsb'_zero
  rw [← hz]
  exact BitVec.extractLsb'_append_extractLsb'_eq_extractLsb' (Nat.sub_add_cancel hn).symm

/-- A word that is 0 under the mask of its row is its opcode, its fields and its zeros side by side: from bit 31 down, each part
lengthens the field read so far, until it is the whole word. -/
theorem encode_of_fieldsOf {w : Word} {i : Instr} (h : fieldsOf w = some i) (hz : w &&& zeroMaskOf i = 0) :
    encode i = w := by
  unfold fieldsOf at h
  split at h <;> cases h
  all_goals
    rename_i hop
    simp only [zeroMaskOf] at hz
    simp (disch := decide) only [encode, ofNat_eq_opcode hop, extractLsb'_append_zeros hz,
      BitVec.extractLsb'_append_extractLsb'_eq_extractLsb']
    exact BitVec.extractLsb'_eq_self

/-- Settles O3: a word that decodes has the command's row and fields, and no 1 under the row's zero mask. -/
theorem encodeOfDecodeIsTheWord : Obligations.EncodeOfDecodeIsTheWord := by
  intro w i h
  obtain ⟨hfields, hz⟩ := decode_eq_ok_iff.1 h
  exact encode_of_fieldsOf hfields hz

/-! ### The words that are rejected -/

/-- R118's list holds no opcode of a row. -/
theorem fieldsOf_of_reserved {w : Word}
    (h : let op := (opcodeOf w).toNat
      op = 0x03 ∨ (0x0B ≤ op ∧ op ≤ 0x0F) ∨ op = 0x17 ∨ (0x19 ≤ op ∧ op ≤ 0x1B) ∨ (0x1D ≤ op ∧ op ≤ 0x1F) ∨
        (0x24 ≤ op ∧ op ≤ 0x27) ∨ 0x2A ≤ op) :
    fieldsOf w = none := by
  unfold fieldsOf
  split
  case h_26 => rfl
  all_goals
    rename_i hop
    simp [hop] at h

/-- Settles O4: no row has a reserved opcode, so the decoder answers E_OPCODE and the port rejects the word. -/
theorem reservedOpcodesAreRejected : Obligations.ReservedOpcodesAreRejected := fun _ s h =>
  hostCommand_of_error (decode_of_fieldsOf_none (fieldsOf_of_reserved h)) s

/-- The opcode alone selects the row, so it fixes the zero mask, whatever the fields hold. -/
theorem zeroMaskOf_of_opcodeOf_eq {w v : Word} (h : opcodeOf w = opcodeOf v) :
    (fieldsOf w).map zeroMaskOf = (fieldsOf v).map zeroMaskOf := by
  unfold fieldsOf
  rw [h]
  split <;> rfl

/-- Settles O5: the word's row is that of the command, so the word has a 1 under its own row's mask. -/
theorem mustBeZeroBitsAreRejected : Obligations.MustBeZeroBitsAreRejected := by
  intro i w s hop hmask
  have hrow : (fieldsOf w).map zeroMaskOf = some (zeroMaskOf i) := by
    rw [zeroMaskOf_of_opcodeOf_eq hop, fieldsOf_encode, Option.map_some]
  obtain ⟨j, hj, hmaskj⟩ := Option.map_eq_some_iff.1 hrow
  exact hostCommand_of_error (decode_of_zeroMask_ne hj (hmaskj ▸ hmask)) s

/-- Settles O1: each word is evaluated. -/
theorem sampleWordsDecode : Obligations.SampleWordsDecode := ⟨rfl, rfl, rfl, rfl, rfl, rfl, rfl, rfl, rfl⟩

end Sys2Proof.Machine
end

section
/-! SUPPORT. A tick of a timer (40_timer.md R150 to R158): its count (O22), its events (O23), the cycle it falls on (O25) and the
output-compare latches (O26, O27). -/

namespace Sys2Proof.Machine

/-! ### The count -/

/-- A wrap is at TOP or at MAX (40_timer.md R151). -/
theorem wraps_iff {w : Nat} (c top : BitVec w) : wraps c top = true ↔ c = top ∨ c.toNat = 2 ^ w - 1 := by
  simp [wraps, counterMax, ← BitVec.toNat_inj (y := BitVec.allOnes w)]

/-- The count that a tick at the count `c` leaves (R151). -/
def countAfterTick {w : Nat} (c top : BitVec w) : BitVec w := if wraps c top then 0 else c + 1

theorem tick8_cnt (t : Timer8) : (tick8 t).cnt = countAfterTick t.cnt (top8 t) := rfl

theorem tick16_cnt (t : Timer16) : (tick16 t).cnt = countAfterTick t.cnt (top16 t) := rfl

theorem countAfterTick_of_wraps {w : Nat} {c top : BitVec w} (h : wraps c top = true) : countAfterTick c top = 0 := if_pos h

/-- Counting up does not pass MAX, since MAX wraps. -/
theorem countAfterTick_toNat_of_not_wraps {w : Nat} {c top : BitVec w} (h : ¬wraps c top = true) :
    (countAfterTick c top).toNat = c.toNat + 1 := by
  have hmax : c.toNat ≠ 2 ^ w - 1 := fun hc => h ((wraps_iff c top).2 (.inr hc))
  have hlt : c.toNat + 1 < 2 ^ w := by have := c.isLt; omega
  simpa [countAfterTick, h] using Nat.mod_eq_of_lt hlt

theorem countAfterTick_toNat {w : Nat} (c top : BitVec w) :
    (countAfterTick c top).toNat = if c = top ∨ c.toNat = 2 ^ w - 1 then 0 else c.toNat + 1 := by
  by_cases h : wraps c top = true
  · rw [countAfterTick_of_wraps h, if_pos ((wraps_iff c top).1 h)]
    exact BitVec.toNat_zero
  · rw [countAfterTick_toNat_of_not_wraps h, if_neg (mt (wraps_iff c top).2 h)]

/-- Settles O22: the count is `countAfterTick`, and a tick writes only CNT and the latches. -/
theorem tickCountsUpOrWraps : Obligations.TickCountsUpOrWraps := by
  refine ⟨fun t => ⟨?_, rfl⟩, fun t => ⟨?_, rfl⟩⟩
  · rw [tick8_cnt]; exact countAfterTick_toNat t.cnt (top8 t)
  · rw [tick16_cnt]; exact countAfterTick_toNat t.cnt (top16 t)

/-! ### The events -/

theorem isFastPwm8_iff (m : Mode8) : isFastPwm8 m = true ↔ m = .fastPwm := by cases m <;> decide

theorem isFastPwm16_iff (m : Mode16) : isFastPwm16 m = true ↔ m = .fastPwmIcr := by cases m <;> decide

theorem isIcrMode_iff (m : Mode16) : isIcrMode m = true ↔ m = .fastPwmIcr ∨ m = .ctcIcr := by cases m <;> decide

/-- T1's TOP in an ICR mode (10_state.md R36). -/
theorem top16_of_icrMode {t : Timer16} (h : isIcrMode t.mode = true) : top16 t = t.icr := by
  rcases (isIcrMode_iff _).1 h with hm | hm <;> rw [top16, hm]

theorem top16_of_fastPwm {t : Timer16} (h : t.mode = .fastPwmIcr) : top16 t = t.icr := by rw [top16, h]

theorem compareEvent_iff {w : Nat} (c ocr : BitVec w) : compareEvent c ocr = true ↔ c = ocr := beq_iff_eq

/-- MAX overflows in every mode, TOP in a FAST_PWM mode only (40_timer.md R153). -/
theorem overflowEvent_iff {w : Nat} (c top : BitVec w) (fastPwm : Bool) :
    overflowEvent c top fastPwm = true ↔ c.toNat = 2 ^ w - 1 ∨ (fastPwm = true ∧ c = top) := by
  have hmax : c = counterMax w ↔ c.toNat = 2 ^ w - 1 := by rw [← BitVec.toNat_inj, counterMax, BitVec.toNat_allOnes]
  simp only [overflowEvent, Bool.and_eq_true, Bool.or_eq_true, wraps_iff, beq_iff_eq, hmax]
  tauto

/-- A capture is at TOP in an ICR mode (R154). -/
theorem captureEvent_iff {w : Nat} (c top : BitVec w) (icrMode : Bool) :
    captureEvent c top icrMode = true ↔ icrMode = true ∧ c = top := by
  simp only [captureEvent, Bool.and_eq_true, wraps_iff, beq_iff_eq]
  tauto

/-- Settles O23: each event's own rule, with T1's TOP read as ICR in its ICR modes. -/
theorem tickEvents : Obligations.TickEvents := by
  refine ⟨fun t => ⟨compareEvent_iff _ _, ?_⟩, fun t => ⟨compareEvent_iff _ _, compareEvent_iff _ _, ?_, ?_⟩⟩
  · exact (overflowEvent_iff _ _ _).trans (or_congr_right (and_congr_left' (isFastPwm8_iff _)))
  · refine (captureEvent_iff _ _ _).trans ?_
    rw [← isIcrMode_iff]
    exact and_congr_right fun h => by rw [top16_of_icrMode h]
  · refine (overflowEvent_iff _ _ _).trans (or_congr_right ?_)
    rw [isFastPwm16_iff]
    exact and_congr_right fun h => by rw [top16_of_fastPwm h]

/-! ### The prescaler -/

theorem divisor_bounds (d : ClockDiv) : 0 < divisor d ∧ divisor d ≤ 1024 := by cases d <;> decide

theorem prescalerTicks_run_iff (d : ClockDiv) (psc : BitVec 10) :
    prescalerTicks (.run d) psc = true ↔ divisor d - 1 ≤ psc.toNat := decide_eq_true_iff

theorem prescalerNext_run (d : ClockDiv) (psc : BitVec 10) :
    prescalerNext (.run d) psc = if divisor d - 1 ≤ psc.toNat then 0 else psc + 1 := rfl

/-- A cycle of a running 8-bit timer ticks with PSC back at 0, or counts PSC up (R150). -/
theorem clock8_of_run {t : Timer8} {d : ClockDiv} (hcs : t.cs = .run d) :
    clock8 t = if divisor d - 1 ≤ t.psc.toNat then tick8 { t with psc := 0 } else { t with psc := t.psc + 1 } := by
  unfold clock8
  simp only [hcs, prescalerTicks_run_iff, prescalerNext_run]
  split <;> rfl

/-- A cycle of a running T1 ticks with PSC back at 0, or counts PSC up (R150). -/
theorem clock16_of_run {t : Timer16} {d : ClockDiv} (hcs : t.cs = .run d) :
    clock16 t = if divisor d - 1 ≤ t.psc.toNat then tick16 { t with psc := 0 } else { t with psc := t.psc + 1 } := by
  unfold clock16
  simp only [hcs, prescalerTicks_run_iff, prescalerNext_run]
  split <;> rfl

/-- From PSC = 0 the first tick falls on the N-th cycle (R150), for any clocked unit that in each cycle ticks with PSC back at 0, or
counts PSC up; `withPsc p` is the unit with PSC = `p`, and `start` the one with PSC = 0. -/
theorem iterate_prescaler {T : Type} {clock tick : T → T} {withPsc : BitVec 10 → T} {start : T} {d : ClockDiv}
    (hstart : withPsc 0 = start)
    (hclock : ∀ p, clock (withPsc p) = if divisor d - 1 ≤ p.toNat then tick (withPsc 0) else withPsc (p + 1)) :
    (∀ k, k < divisor d → clock^[k] start = withPsc (BitVec.ofNat 10 k)) ∧ clock^[divisor d] start = tick start := by
  subst hstart
  obtain ⟨hpos, hle⟩ := divisor_bounds d
  have hpsc (k : Nat) (hk : k < divisor d) : (BitVec.ofNat 10 k).toNat = k := by
    rw [BitVec.toNat_ofNat]; exact Nat.mod_eq_of_lt (by omega)
  have counting (k : Nat) (hk : k < divisor d) : clock^[k] (withPsc 0) = withPsc (BitVec.ofNat 10 k) := by
    induction k with
    | zero => rfl
    | succ k ih =>
      rw [Function.iterate_succ_apply', ih (by omega), hclock, hpsc k (by omega), if_neg (by omega), BitVec.ofNat_add]
      rfl
  refine ⟨counting, ?_⟩
  obtain ⟨n, hn⟩ := Nat.exists_eq_add_one_of_ne_zero hpos.ne'
  rw [hn, Function.iterate_succ_apply', counting n (by omega), hclock, hpsc n (by omega), if_pos (by omega)]

/-- A stopped timer stands still and gives no event (R158). -/
theorem clock8_of_stop {t : Timer8} (hcs : t.cs = .stop) : clock8 t = t ∧ clockEvents8 t = ⟨false, false⟩ := by
  cases t; cases hcs
  exact ⟨rfl, rfl⟩

/-- A stopped T1 stands still and gives no event (R158). -/
theorem clock16_of_stop {t : Timer16} (hcs : t.cs = .stop) :
    clock16 t = t ∧ clockEvents16 t = ⟨false, false, false, false⟩ := by
  cases t; cases hcs
  exact ⟨rfl, rfl⟩

/-- Settles O25: `iterate_prescaler` on each width, and a stopped timer's prescaler neither counts nor ticks. -/
theorem firstTickFallsOnTheNthCycle : Obligations.FirstTickFallsOnTheNthCycle := by
  refine ⟨fun d t hcs hpsc => ?_, fun d t hcs hpsc => ?_, fun t => clock8_of_stop, fun t => clock16_of_stop⟩
  · exact iterate_prescaler (tick := tick8) (withPsc := fun p => { t with psc := p }) (by rw [← hpsc]) fun p =>
      clock8_of_run (t := { t with psc := p }) hcs
  · exact iterate_prescaler (tick := tick16) (withPsc := fun p => { t with psc := p }) (by rw [← hpsc]) fun p =>
      clock16_of_run (t := { t with psc := p }) hcs

/-! ### The output-compare latches

The latch of one channel over a tick, for each COM behaviour (R156): the wrap's value wins, since the compare acts first. -/

@[simp] theorem ocAfterTick_disconnect (cmp bot oc : Bool) : ocAfterTick .disconnect cmp bot oc = oc := by
  cases cmp <;> cases bot <;> rfl

@[simp] theorem ocAfterTick_toggle (cmp bot oc : Bool) : ocAfterTick .toggle cmp bot oc = (cmp ^^ oc) := by
  cases cmp <;> cases bot <;> cases oc <;> rfl

@[simp] theorem ocAfterTick_nonInverting (cmp bot oc : Bool) :
    ocAfterTick .nonInverting cmp bot oc = (bot || (!cmp && oc)) := by
  cases cmp <;> cases bot <;> rfl

@[simp] theorem ocAfterTick_inverting (cmp bot oc : Bool) :
    ocAfterTick .inverting cmp bot oc = (!bot && (cmp || oc)) := by
  cases cmp <;> cases bot <;> rfl

/-- The four behaviours of one channel, with the compare and the wrap as propositions. -/
theorem ocAfterTick_actions (com : Com) (oc : Bool) {cmp bot : Bool} {compare bottom : Prop}
    (hcmp : cmp = true ↔ compare) (hbot : bot = true ↔ bottom) :
    (com = .disconnect → ocAfterTick com cmp bot oc = oc) ∧
    (com = .toggle → (ocAfterTick com cmp bot oc = true ↔ (compare ∧ oc = false) ∨ (¬compare ∧ oc = true))) ∧
    (com = .nonInverting → (ocAfterTick com cmp bot oc = true ↔ bottom ∨ (¬compare ∧ oc = true))) ∧
    (com = .inverting → (ocAfterTick com cmp bot oc = true ↔ ¬bottom ∧ (compare ∨ oc = true))) := by
  rw [← hcmp, ← hbot]
  refine ⟨?_, ?_, ?_, ?_⟩ <;> rintro rfl
  · exact ocAfterTick_disconnect cmp bot oc
  · cases cmp <;> simp
  · simp
  · simp

/-- In FAST_PWM T0 and T2 wrap at MAX, which is their TOP (10_state.md R36). -/
theorem bottom8_iff (t : Timer8) :
    (wraps t.cnt (top8 t) && isFastPwm8 t.mode) = true ↔ t.mode = .fastPwm ∧ t.cnt.toNat = 255 := by
  rw [Bool.and_eq_true, isFastPwm8_iff, wraps_iff, and_comm]
  refine and_congr_right fun h => ?_
  have htop : top8 t = 255 := by rw [top8, h]
  rw [htop, ← BitVec.toNat_inj]
  exact or_self_iff

/-- In FAST_PWM_ICR T1 wraps at ICR and at MAX (R36). -/
theorem bottom16_iff (t : Timer16) :
    (wraps t.cnt (top16 t) && isFastPwm16 t.mode) = true ↔ t.mode = .fastPwmIcr ∧ (t.cnt = t.icr ∨ t.cnt.toNat = 65535) := by
  rw [Bool.and_eq_true, isFastPwm16_iff, wraps_iff, and_comm]
  exact and_congr_right fun h => or_congr_left (by rw [top16_of_fastPwm h])

/-- Settles O26: `ocAfterTick_actions` on each channel. -/
theorem outputCompareLatchActions : Obligations.OutputCompareLatchActions := by
  refine ⟨fun t => ocAfterTick_actions t.coma t.oca (compareEvent_iff _ _) (bottom8_iff t), fun t => ?_⟩
  obtain ⟨hdisconnect, htoggle, hnonInverting, hinverting⟩ :=
    ocAfterTick_actions t.coma t.oca (compareEvent_iff t.cnt t.ocra) (bottom16_iff t)
  exact ⟨hdisconnect, htoggle, hnonInverting, hinverting,
    ocAfterTick_actions t.comb t.ocb (compareEvent_iff t.cnt t.ocrb) (bottom16_iff t)⟩

/-! ### The PWM waveform -/

/-- A count that is not past TOP is not past it after a tick, since TOP wraps. -/
theorem countAfterTick_le_top {w : Nat} {c top : BitVec w} (h : c ≤ top) : countAfterTick c top ≤ top := by
  rw [BitVec.le_def] at h ⊢
  rw [countAfterTick_toNat]
  split
  case isTrue => exact Nat.zero_le _
  case isFalse hwrap =>
    rw [← BitVec.toNat_inj] at hwrap
    omega

/-- A NON_INVERTING latch over a tick in a FAST_PWM mode: the wrap sets it at count 0, and the compare clears it as the count leaves
OCR (R156, R157). -/
theorem nonInverting_follows_count {w : Nat} (c top ocr : BitVec w) {oc : Bool} (h : oc = true ↔ c ≤ ocr) :
    ocAfterTick .nonInverting (compareEvent c ocr) (wraps c top) oc = true ↔ countAfterTick c top ≤ ocr := by
  by_cases hwrap : wraps c top = true
  · simp [hwrap, countAfterTick_of_wraps hwrap, BitVec.le_def]
  · have hcount : countAfterTick c top ≤ ocr ↔ c ≠ ocr ∧ c ≤ ocr := by
      rw [BitVec.le_def, BitVec.le_def, countAfterTick_toNat_of_not_wraps hwrap, Ne, ← BitVec.toNat_inj]
      omega
    rw [hcount, ← h]
    simp [hwrap, compareEvent]

theorem ocAfterTick_inverting_eq_not (cmp bot oc : Bool) :
    ocAfterTick .inverting cmp bot oc = !ocAfterTick .nonInverting cmp bot (!oc) := by
  simp

/-- An INVERTING latch over a tick in a FAST_PWM mode is the complement (R157). -/
theorem inverting_follows_count {w : Nat} (c top ocr : BitVec w) {oc : Bool} (h : oc = false ↔ c ≤ ocr) :
    ocAfterTick .inverting (compareEvent c ocr) (wraps c top) oc = false ↔ countAfterTick c top ≤ ocr := by
  rw [ocAfterTick_inverting_eq_not, Bool.not_eq_false']
  exact nonInverting_follows_count c top ocr (by rwa [Bool.not_eq_true'])

/-- The latches of T0 and T2 in FAST_PWM: every wrap is a bottom. -/
theorem tick8_oca_of_fastPwm {t : Timer8} (h : t.mode = .fastPwm) :
    (tick8 t).oca = ocAfterTick t.coma (compareEvent t.cnt t.ocra) (wraps t.cnt (top8 t)) t.oca := by
  rw [tick8, (isFastPwm8_iff _).2 h, Bool.and_true]

/-- The latches of T1 in FAST_PWM_ICR: every wrap is a bottom. -/
theorem tick16_oc_of_fastPwm {t : Timer16} (h : t.mode = .fastPwmIcr) :
    (tick16 t).oca = ocAfterTick t.coma (compareEvent t.cnt t.ocra) (wraps t.cnt (top16 t)) t.oca ∧
    (tick16 t).ocb = ocAfterTick t.comb (compareEvent t.cnt t.ocrb) (wraps t.cnt (top16 t)) t.ocb := by
  rw [tick16, (isFastPwm16_iff _).2 h, Bool.and_true]
  exact ⟨rfl, rfl⟩

/-- Settles O27: each channel's latch follows the count, and T1's count stays at or below its TOP. -/
theorem pwmPinFollowsTheComparison : Obligations.PwmPinFollowsTheComparison := by
  refine ⟨fun t hmode => ?_, fun t hmode hle => ?_⟩
  · rw [tick8_oca_of_fastPwm hmode, tick8_cnt]
    exact ⟨fun hcom h => hcom ▸ nonInverting_follows_count t.cnt (top8 t) t.ocra h,
      fun hcom h => hcom ▸ inverting_follows_count t.cnt (top8 t) t.ocra h⟩
  · obtain ⟨hoca, hocb⟩ := tick16_oc_of_fastPwm hmode
    rw [hoca, hocb, tick16_cnt]
    refine ⟨?_, fun hcom h => ?_, fun hcom h => ?_, fun hcom h => ?_, fun hcom h => ?_⟩
    · rw [← top16_of_fastPwm hmode] at hle ⊢
      exact countAfterTick_le_top hle
    · exact hcom ▸ nonInverting_follows_count t.cnt (top16 t) t.ocra h
    · exact hcom ▸ inverting_follows_count t.cnt (top16 t) t.ocra h
    · exact hcom ▸ nonInverting_follows_count t.cnt (top16 t) t.ocrb h
    · exact hcom ▸ inverting_follows_count t.cnt (top16 t) t.ocrb h

end Sys2Proof.Machine
end

section
/-! SUPPORT. The timer commands (40_timer.md R131 to R139): what each answers where its fields are legal (O17, O18), and the duty
function (O19, O20). -/

namespace Sys2Proof.Machine

/-! ### What a legal timer command answers -/

section Legal

variable {tmr : BitVec 2} {n : TimerId} (s : State) (hn : timerOf tmr = some n)
include hn

theorem exec_tinit_of_legal {mode : BitVec 2} {cs : BitVec 3} {m : TimerMode} {c : ClockSel}
    (hm : timerModeOf n mode = some m) (hc : clockSelOf cs = some c) :
    exec (.tinit tmr mode cs) s = .next ((tinitSeq m c s).respond 0) := by
  change execTinit tmr mode cs s = _
  simp only [execTinit, hn, hm, hc, withOperand_some]; rfl

theorem exec_tstop_of_legal : exec (.tstop tmr) s = .next ((stopTimer n s).respond 0) := by
  change execTstop tmr s = _
  rw [execTstop, hn]; rfl

theorem exec_tsetcnt_of_legal {val : BitVec 16} (hval : valFits n val = true) :
    exec (.tsetcnt tmr val) s = .next ((setCounter n val s).respond 0) := by
  change execTsetcnt tmr val s = _
  rw [execTsetcnt, hn, withOperand_some, hval]; rfl

variable {ch : BitVec 1} {c : Channel} (hc : channelOf n ch = some c)
include hc

theorem exec_tsetocr_of_legal {val : BitVec 16} (hval : valFits n val = true) :
    exec (.tsetocr tmr ch val) s = .next ((setCompare c val s).respond 0) := by
  change execTsetocr tmr ch val s = _
  rw [execTsetocr, hn, withOperand_some, hc, withOperand_some, hval]; rfl

theorem exec_tsetduty_of_legal {p : BitVec 7} (hp : p.toNat ≤ 100) :
    exec (.tsetduty tmr ch p) s = .next ((setCompare c ((duty p).setWidth 16) s).respond 0) := by
  change execTsetduty tmr ch p s = _
  rw [execTsetduty, hn, withOperand_some, hc, withOperand_some, isPercentage, decide_eq_true hp]; rfl

theorem exec_tocpin_of_legal (com : BitVec 2) :
    exec (.tocpin tmr ch com) s = .next ((setCom c (comOf com) s).respond 0) := by
  change execTocpin tmr ch com s = _
  rw [execTocpin, hn, withOperand_some, hc]; rfl

end Legal

/-- TSETICR exists on T1 only (R136). -/
theorem exec_tseticr_of_ne {tmr : BitVec 2} (val : BitVec 16) (s : State) (h : tmr ≠ 1) :
    exec (.tseticr tmr val) s = .next (s.reject .eTimer) := by
  change execTseticr tmr val s = _
  rw [execTseticr, beq_false_of_ne h]; rfl

/-- Settles O17: the codes select what they are the codes of, and TINIT_SEQ and the stop write what they say. -/
theorem tinitAndTstopWriteTheClock : Obligations.TinitAndTstopWriteTheClock := by
  refine ⟨⟨rfl, rfl, rfl⟩, ⟨rfl, rfl, rfl, rfl⟩, ⟨rfl, rfl, rfl, rfl, rfl, rfl⟩, fun s m m' c => ?_⟩
  have hc := clockSelOf_code c
  have h0 : timerModeOf .t0 (mode8Code m) = some (.t0 m) := by rw [timerModeOf, mode8Of_code, Option.map_some]
  have h1 : timerModeOf .t1 (mode16Code m') = some (.t1 m') := by rw [timerModeOf, mode16Of_code]
  have h2 : timerModeOf .t2 (mode8Code m) = some (.t2 m) := by rw [timerModeOf, mode8Of_code, Option.map_some]
  exact ⟨exec_tinit_of_legal s rfl h0 hc, exec_tinit_of_legal s rfl h1 hc, exec_tinit_of_legal s rfl h2 hc,
    exec_tstop_of_legal s (n := .t0) rfl, exec_tstop_of_legal s (n := .t1) rfl, exec_tstop_of_legal s (n := .t2) rfl⟩

/-! ### Byte values -/

/-- A byte fits every timer's registers (30_encoding.md R108). -/
theorem valFits_byte (n : TimerId) (b : BitVec 8) : valFits n (b.setWidth 16) = true := by
  have hb : (b.setWidth 16).toNat ≤ 255 := by
    rw [BitVec.toNat_setWidth_of_le (by decide)]; exact Nat.le_of_lt_succ b.isLt
  rw [valFits, decide_eq_true hb, Bool.or_true]

theorem setWidth_byte (b : BitVec 8) : (b.setWidth 16).setWidth 8 = b := by
  rw [BitVec.setWidth_setWidth_of_le b (by decide), BitVec.setWidth_eq]

/-- Settles O18: each command writes its one field, and a byte survives the passage through the 16-bit VAL. -/
theorem timerRegisterWrites : Obligations.TimerRegisterWrites := by
  refine ⟨⟨rfl, rfl, rfl, rfl⟩, fun s b v c tmr => ⟨?_, ?_, ?_, ?_, ?_, ?_, ?_, ?_, fun htmr => ?_, ?_, ?_, ?_, ?_⟩⟩
  · rw [exec_tsetcnt_of_legal s rfl (valFits_byte .t0 b), setCounter, setWidth_byte]; rfl
  · exact exec_tsetcnt_of_legal s (n := .t1) rfl rfl
  · rw [exec_tsetcnt_of_legal s rfl (valFits_byte .t2 b), setCounter, setWidth_byte]; rfl
  · rw [exec_tsetocr_of_legal s rfl rfl (valFits_byte .t0 b), setCompare, setWidth_byte]; rfl
  · exact exec_tsetocr_of_legal s (n := .t1) (c := .oc1A) rfl rfl rfl
  · exact exec_tsetocr_of_legal s (n := .t1) (c := .oc1B) rfl rfl rfl
  · rw [exec_tsetocr_of_legal s rfl rfl (valFits_byte .t2 b), setCompare, setWidth_byte]; rfl
  · rfl
  · exact exec_tseticr_of_ne v s htmr
  · rw [exec_tocpin_of_legal s rfl rfl, comOf_code]; rfl
  · rw [exec_tocpin_of_legal s rfl rfl, comOf_code]; rfl
  · rw [exec_tocpin_of_legal s rfl rfl, comOf_code]; rfl
  · rw [exec_tocpin_of_legal s rfl rfl, comOf_code]; rfl

/-! ### The duty function -/

/-- R138's formula as an integer: reducing modulo 256 already leaves a byte. -/
theorem duty_toInt (p : BitVec 7) : ((duty p).toNat : Int) = ((256 * (p.toNat : Int) + 50) / 100 - 1) % 256 := by
  rw [duty, BitVec.toNat_ofInt]
  omega

/-- Settles O19: the formula is `duty_toInt`, a tie fails modulo 2, and the listed values are evaluated. -/
theorem dutyValues : Obligations.DutyValues := by
  refine ⟨fun p _ => duty_toInt p, fun p _ => ?_, ?_⟩
  · omega
  · decide

/-- On naturals the subtraction of 1 is the addition of 255. -/
theorem duty_toNat (p : BitVec 7) : (duty p).toNat = ((256 * p.toNat + 50) / 100 + 255) % 256 := by
  have hcast : (256 * (p.toNat : Int) + 50) / 100 = ((256 * p.toNat + 50) / 100 : Nat) := by norm_cast
  have h := duty_toInt p
  rw [hcast] at h
  omega

theorem duty_eq_ofNat (p : BitVec 7) : duty p = BitVec.ofNat 8 ((256 * p.toNat + 50) / 100 + 255) :=
  BitVec.eq_of_toNat_eq (duty_toNat p)

theorem duty_setWidth (p : BitVec 7) :
    (duty p).setWidth 16 = BitVec.ofNat 16 (((256 * p.toNat + 50) / 100 + 255) % 256) := by
  rw [← duty_toNat, BitVec.ofNat_toNat]

/-- Settles O20: TSETDUTY writes the duty, whose value is `duty_toNat`. -/
theorem tsetdutyWritesTheDutyValue : Obligations.TsetdutyWritesTheDutyValue := by
  intro s p hp
  refine ⟨?_, ?_, ?_, ?_⟩
  · rw [exec_tsetduty_of_legal s rfl rfl hp, setCompare, setWidth_byte, duty_eq_ofNat]; rfl
  · rw [exec_tsetduty_of_legal s rfl rfl hp, setCompare, duty_setWidth]; rfl
  · rw [exec_tsetduty_of_legal s rfl rfl hp, setCompare, duty_setWidth]; rfl
  · rw [exec_tsetduty_of_legal s rfl rfl hp, setCompare, setWidth_byte, duty_eq_ofNat]; rfl

end Sys2Proof.Machine
end

section
/-! SUPPORT. The event router (41_events.md): what its commands answer (O28), which source a DISPATCH phase runs (O29), what an action
may write and what a whole pass leaves (O30), and who writes slots (O33). -/

namespace Sys2Proof.Machine

/-! ### The sources a DISPATCH phase visits -/

/-- The dispatch order is the order of the ids (60_exceptions.md R325). -/
theorem srcsInOrder_pairwise : srcsInOrder.Pairwise (srcId · < srcId ·) := by decide

theorem nodup_of_pairwise_srcId {l : List Src} (h : l.Pairwise (srcId · < srcId ·)) : l.Nodup :=
  h.imp fun hlt he => hlt.ne (congrArg srcId he)

theorem dispatchSource_of_not_ready (P : Params) {s : State} {x : Src} (h : s.ready x = false) : dispatchSource P s x = s :=
  if_neg (ne_true_of_eq_false h)

theorem dispatchSource_of_ready (P : Params) {s : State} {x : Src} (h : s.ready x = true) :
    dispatchSource P s x = runAction P (s.slot.get x) x (s.setFlag x false) := if_pos h

/-- The visits of a list in which at most `y` is ready come to the visit of `y`. -/
theorem foldl_dispatchSource_of_one (P : Params) {y : Src} {l : List Src} {s : State} (hl : l.Nodup) (hy : y ∈ l)
    (h : ∀ z ∈ l, z ≠ y → s.ready z = false) : l.foldl (dispatchSource P) s = dispatchSource P s y := by
  induction l with
  | nil => cases hy
  | cons z l ih =>
    obtain ⟨hz, hl⟩ := List.nodup_cons.mp hl
    obtain ⟨hhead, htail⟩ := List.forall_mem_cons.mp h
    rw [List.foldl_cons]
    by_cases hzy : z = y
    · subst hzy
      exact foldl_dispatchSource_of_not_ready P fun w hw =>
        dispatchSource_ready_false P z w (.inr (htail w hw (ne_of_mem_of_not_mem hw hz)))
    · rw [dispatchSource_of_not_ready P (hhead hzy)]
      exact ih hl ((List.mem_cons.mp hy).resolve_left (Ne.symm hzy)) htail

/-- The visits, in id order, of a list in which at most `x` and `y` are ready: the lower id first, the other in the state it left
(60_exceptions.md R325, R326). -/
theorem foldl_dispatchSource_of_two (P : Params) {x y : Src} {l : List Src} {s : State}
    (hl : l.Pairwise (srcId · < srcId ·)) (hx : x ∈ l) (hy : y ∈ l) (hxy : srcId x < srcId y)
    (h : ∀ z, z ≠ x → z ≠ y → s.ready z = false) :
    l.foldl (dispatchSource P) s = dispatchSource P (dispatchSource P s x) y := by
  induction l with
  | nil => cases hx
  | cons z l ih =>
    obtain ⟨hz, hl⟩ := List.pairwise_cons.mp hl
    have hyx : y ≠ x := fun he => hxy.ne' (congrArg srcId he)
    rw [List.foldl_cons]
    by_cases hzx : z = x
    · subst hzx
      refine foldl_dispatchSource_of_one P (nodup_of_pairwise_srcId hl) ((List.mem_cons.mp hy).resolve_left hyx) ?_
      intro w hw hwy
      have hwz : w ≠ z := fun he => (hz w hw).ne' (congrArg srcId he)
      exact dispatchSource_ready_false P z w (.inr (h w hwz hwy))
    · have hxl : x ∈ l := (List.mem_cons.mp hx).resolve_left (Ne.symm hzx)
      have hzy : z ≠ y := fun he => absurd (hz x hxl) (by rw [he]; exact hxy.asymm)
      rw [dispatchSource_of_not_ready P (h z hzx hzy)]
      exact ih hl hxl ((List.mem_cons.mp hy).resolve_left (Ne.symm hzy))

/-- Settles O29: with one source ready the phase is that source's visit, with two it is the lower id's and then the other's. -/
theorem dispatchNeedsFlagEnableAndGie : Obligations.DispatchNeedsFlagEnableAndGie := by
  refine ⟨fun P s x h => ?_, fun P s x y hg hxy hx hy h => ?_⟩
  · by_cases hg : s.gie = true
    · rw [dispatchPhase, if_pos hg,
        foldl_dispatchSource_of_one P (nodup_of_pairwise_srcId srcsInOrder_pairwise) (mem_srcsInOrder x) fun z _ => h z]
      simp [dispatchSource, State.ready, State.setFlag, hg]
    · rw [dispatchPhase, if_neg hg, if_neg fun hx => hg hx.2.2]
  · intro first
    have visitX : dispatchSource P s x = first := dispatchSource_of_ready P hx
    have hyx : x ≠ y := fun he => hxy.ne (congrArg srcId he)
    have hslot : first.slot = s.slot := (runAction_frame P _ x _).slot
    have hflag : first.flag.get y = true := by
      obtain ⟨hfy, -⟩ : s.flag.get y = true ∧ s.en.get y = true := by simpa [State.ready] using hy
      simp [first, hyx, hfy]
    rw [dispatchPhase, if_pos hg,
      foldl_dispatchSource_of_two P srcsInOrder_pairwise (mem_srcsInOrder x) (mem_srcsInOrder y) hxy h, visitX]
    simp [dispatchSource, State.ready, State.setFlag, hflag, hslot]

/-! ### What an action writes, and what a pass leaves -/

/-- An action writes no IRQP bit but its own source's (41_events.md R189, R191). -/
theorem runAction_irqp_get (P : Params) (a : Action) {x y : Src} (s : State) (hy : y ≠ x) :
    (runAction P a x s).irqp.get y = s.irqp.get y := by
  rcases runAction_cases P a x s with e | e | ⟨-, e⟩ | ⟨-, e⟩ | ⟨m1, m2, -, e⟩ <;> rw [e]
  · rw [State.setIrqp_irqp, PerSrc.get_set, if_neg hy.symm]
  · rcases echoEdge_cases s with ⟨-, e'⟩ | ⟨-, -, e'⟩ | ⟨-, -, e'⟩ <;> rw [e'] <;> rfl
  · rcases echoOvf_cases P s with ⟨-, e'⟩ | ⟨-, -, e'⟩ | ⟨-, -, e'⟩ <;> rw [e']
    rfl
  · rfl

/-- No action enables a source (R189). -/
theorem runAction_en_le (P : Params) (a : Action) (x : Src) {y : Src} {s : State}
    (hy : (runAction P a x s).en.get y = true) : s.en.get y = true := by
  rcases runAction_en P a x s with e | e <;> rw [e] at hy
  · exact hy
  · exact PerSrc.get_of_get_set_false _ hy

/-- After the visits of a list no source of it is ready, nor one that was not ready before. -/
theorem foldl_dispatchSource_ready_false (P : Params) {x : Src} {l : List Src} {s : State}
    (h : x ∈ l ∨ s.ready x = false) : (l.foldl (dispatchSource P) s).ready x = false := by
  induction l generalizing s with
  | nil => exact h.resolve_left List.not_mem_nil
  | cons y l ih =>
    refine ih ?_
    rcases h with hmem | hr
    · rcases List.mem_cons.mp hmem with hxy | hxl
      · exact .inr (dispatchSource_ready_false P y x (.inl hxy))
      · exact .inl hxl
    · exact .inr (dispatchSource_ready_false P y x (.inr hr))

/-- Settles O30: RUN is read off its table, the frames of an action are collected, and the pass visits every source. -/
theorem oneDispatchPassDrainsEverySource : Obligations.OneDispatchPassDrainsEverySource := by
  refine ⟨fun P x s => ⟨rfl, rfl, rfl, rfl, fun _ _ => rfl⟩, fun P a x s => ?_, fun P s x hg => ?_⟩
  · have frame := runAction_frame P a x s
    exact ⟨runAction_flag P a x s, frame.gie, frame.slot, fun y => runAction_irqp_get P a s, fun y => runAction_en_le P a x,
      (runAction_rtFrame P a x s).en⟩
  · rw [dispatchPhase, if_pos hg]
    exact foldl_dispatchSource_ready_false P (.inl (mem_srcsInOrder x))

/-! ### Who writes slots -/

@[simp] theorem setSense_slot (i : Line) (m : Sense) (s : State) : (setSense i m s).slot = s.slot := by simp [setSense_eq]

@[simp] theorem hbAction_slot (m1 m2 : HbCode) (s : State) : (hbAction m1 m2 s).slot = s.slot := rfl

@[simp] theorem utrigSeq_slot (P : Params) (s : State) : (utrigSeq P s).slot = s.slot := by
  rcases utrigSeq_cases P s with ⟨-, e⟩ | ⟨-, e⟩ <;> rw [e]

@[simp] theorem mstopSeq_slot (s : State) : (mstopSeq s).slot = s.slot := by rw [mstopSeq_frame]

@[simp] theorem minitSeq_slot (m : SpeedMode) (s : State) : (minitSeq m s).slot = s.slot := by simp [minitSeq]

/-- The slots `p` and `q` agree on every source but the motor timers' four (44_motor_pwm.md R265). -/
def SlotsAgreeOffMotor (p q : PerSrc Action) : Prop :=
  ∀ x, x ≠ .t0Cmp → x ≠ .t0Ovf → x ≠ .t1CmpA → x ≠ .t1Capt → q.get x = p.get x

theorem SlotsAgreeOffMotor.refl (p : PerSrc Action) : SlotsAgreeOffMotor p p := fun _ _ _ _ _ => rfl

theorem SlotsAgreeOffMotor.trans {p q r : PerSrc Action} (h : SlotsAgreeOffMotor p q) (h' : SlotsAgreeOffMotor q r) :
    SlotsAgreeOffMotor p r := fun x h1 h2 h3 h4 => (h' x h1 h2 h3 h4).trans (h x h1 h2 h3 h4)

theorem slotsAgree_set_t0 (p : PerSrc Action) (a b : Action) :
    SlotsAgreeOffMotor p ((p.set .t0Cmp a).set .t0Ovf b) := by
  intro x h1 h2 _ _
  simp [h1.symm, h2.symm]

theorem slotsAgree_set_t1 (p : PerSrc Action) (a b : Action) :
    SlotsAgreeOffMotor p ((p.set .t1CmpA a).set .t1Capt b) := by
  intro x _ _ h3 h4
  simp [h3.symm, h4.symm]

/-- `PWM_START` binds the motor timers' slots only, in either mode (R265). -/
theorem pwmStart_slotsAgree (P : Params) (s : State) : SlotsAgreeOffMotor s.slot (pwmStart P s).slot := by
  have motor1 : SlotsAgreeOffMotor s.slot (pwmStartMotor1 P s).slot := by
    rcases pwmStartMotor1_cases P s with ⟨-, e⟩ | ⟨-, e⟩ <;> rw [e]
    · exact .refl _
    · exact slotsAgree_set_t1 _ _ _
  have motor2 (s : State) : SlotsAgreeOffMotor s.slot (pwmStartMotor2 P s).slot := by
    rcases pwmStartMotor2_cases P s with ⟨-, e⟩ | ⟨-, e⟩ <;> rw [e]
    · exact .refl _
    · exact slotsAgree_set_t0 _ _ _
  cases hm : s.mc.smode <;> simp only [pwmStart, hm]
  · rcases pwmStartSame_cases P s with ⟨-, e⟩ | ⟨-, e⟩ <;> rw [e]
    · exact .refl _
    · exact slotsAgree_set_t0 _ _ _
  · exact motor1.trans (motor2 _)

theorem mdirSeq_slotsAgree (P : Params) (d : Direction) (s : State) : SlotsAgreeOffMotor s.slot (mdirSeq P d s).slot := by
  have start := pwmStart_slotsAgree P { mstopSeq s with mc := { (mstopSeq s).mc with dir := d, active := true } }
  rwa [mstopSeq_slot] at start

theorem mspeedSeq_slotsAgree (P : Params) (p1 p2 : BitVec 7) (s : State) :
    SlotsAgreeOffMotor s.slot (mspeedSeq P p1 p2 s).slot := by
  rcases mspeedSeq_cases P p1 p2 s with ⟨-, e⟩ | ⟨-, e⟩ <;> rw [e]
  · exact .refl _
  · exact mdirSeq_slotsAgree P s.mc.dir { s with mc := { s.mc with p1 := p1, p2 := p2 } }

/-- UINIT binds the slots of ECHO_SRC and RT_OVF only (43_ultrasonic.md R222). -/
theorem uinitSeq_slot_get (P : Params) (s : State) {x : Src} (hovf : x ≠ .t2Ovf) (hecho : x ≠ echoSrc P) :
    (uinitSeq P s).slot.get x = s.slot.get x := by
  rw [uinitSeq_eq]
  simp [hovf.symm, hecho.symm]

namespace CommandEffect

variable {i : Instr} {s u : State}

theorem slot_eq (h : CommandEffect s i u) (hcb : ∀ x a, i ≠ .evsetcb x a) (hui : i ≠ .uinit) (hms : ∀ p q, i ≠ .mspeed p q)
    (hmd : ∀ d, i ≠ .mdir d) : u.slot = s.slot := by
  cases h with
  | evsetcb => exact absurd rfl (hcb _ _)
  | uinit => exact absurd rfl hui
  | mspeed => exact absurd rfl (hms _ _)
  | mdir => exact absurd rfl (hmd _)
  | _ => simp

theorem slot_get_of_uinit (h : CommandEffect s i u) (hui : i = .uinit) (x : Src) (hovf : x ≠ .t2Ovf)
    (hecho : x ≠ echoSrc Config.params) : u.slot.get x = s.slot.get x := by
  subst hui
  cases h
  exact uinitSeq_slot_get Config.params s hovf hecho

theorem slotsAgree_of_motor (h : CommandEffect s i u) (hm : (∃ p q, i = .mspeed p q) ∨ ∃ d, i = .mdir d) :
    SlotsAgreeOffMotor s.slot u.slot := by
  rcases hm with ⟨p, q, rfl⟩ | ⟨d, rfl⟩ <;> cases h
  · exact mspeedSeq_slotsAgree Config.params p q s
  · exact mdirSeq_slotsAgree Config.params (directionOf d) s

end CommandEffect

/-- Settles O33: a rejection writes RESP only, and the effects that write slots write their own. -/
theorem slotWriters : Obligations.SlotWriters := by
  intro i s t ht
  rcases exec_cases i s t ht with ⟨e, rfl⟩ | ⟨u, d, h, rfl⟩
  · simp
  · exact ⟨h.slot_eq, h.slot_get_of_uinit, h.slotsAgree_of_motor⟩

/-! ### The router's commands -/

/-- Settles O28: the id of a source and the code of an action select them, and each command writes its one value. -/
theorem routerCommandsWriteTheirSource : Obligations.RouterCommandsWriteTheirSource := by
  refine ⟨⟨rfl, rfl, rfl, rfl, rfl, rfl, rfl, rfl, rfl, rfl, rfl⟩, ⟨rfl, rfl, rfl, rfl⟩, ⟨rfl, rfl, rfl, rfl, rfl⟩,
    fun m1 m2 => ?_, fun s x a => ⟨?_, ?_, ?_, ?_, ?_⟩⟩
  · cases m1 <;> cases m2 <;> rfl
  · change execEvsetcb _ _ s = _
    rw [execEvsetcb, srcOf_id, withOperand_some, actionOf_code]; rfl
  · change execEven _ s = _
    rw [execEven, srcOf_id]; rfl
  · change execEvdis _ s = _
    rw [execEvdis, srcOf_id]; rfl
  · change execEvclrf _ s = _
    rw [execEvclrf, srcOf_id]; rfl
  · change execIrqack _ s = _
    rw [execIrqack, srcOf_id]; rfl

end Sys2Proof.Machine
end

section
/-! SUPPORT. The external lines (42_exti.md): when a sample is a line's event (O37), what XSENSE answers (O35), and that the two
together make no edge (O36). -/

namespace Sys2Proof.Machine

/-! ### The event of a line -/

/-- The hit of each sensitivity (R205). -/
theorem lineEvent_iff (l : ExtLine) (level : Bool) :
    lineEvent l level = true ↔
      (l.sense = .lowLevel ∧ level = false) ∨ (l.sense = .anyEdge ∧ level ≠ l.prev) ∨
      (l.sense = .falling ∧ l.prev = true ∧ level = false) ∨ (l.sense = .rising ∧ l.prev = false ∧ level = true) := by
  cases h : l.sense <;> simp [lineEvent, h]

/-- A sample equal to PREV is no edge (R204). -/
theorem lineEvent_of_level_eq_prev {m : Sense} (hm : m ≠ .lowLevel) (level : Bool) : lineEvent ⟨m, level⟩ level = false := by
  cases m with
  | lowLevel => exact absurd rfl hm
  | anyEdge => exact bne_self_eq_false level
  | falling => exact Bool.and_not_self level
  | rising => exact Bool.not_and_self level

/-- The SAMPLE phase ORs each line's event into its flag (R205). -/
theorem samplePhase_flag_line (p : Pins) (s : State) (i : Line) :
    (samplePhase p s).flag.get (lineSrc i) = (s.flag.get (lineSrc i) || lineEvent (s.line.get i) (p.get i)) := by
  rw [samplePhase_eq]; cases i <;> rfl

/-- Settles O37: the flag becomes the OR of its old value and the line's event, whose cases are `lineEvent_iff`. -/
theorem sampleSetsTheLineFlag : Obligations.SampleSetsTheLineFlag := by
  intro p s i
  refine ⟨?_, samplePhase_line_get p s i⟩
  rw [samplePhase_flag_line, Bool.or_eq_true, lineEvent_iff]

/-! ### XSENSE -/

theorem exec_xsense_of_legal {code : BitVec 2} {i : Line} (hi : lineOf code = some i) (m : Sense) (s : State) :
    exec (.xsense code (senseCode m)) s = .next ((setSense i m s).respond 0) := by
  change execXsense code (senseCode m) s = _
  rw [execXsense, hi, senseOf_code]; rfl

/-- LINE = 3 names no line (30_encoding.md R111). -/
theorem exec_xsense_of_none {code : BitVec 2} (h : lineOf code = none) (sense : BitVec 2) (s : State) :
    exec (.xsense code sense) s = .next (s.reject .eLine) := by
  change execXsense code sense s = _
  rw [execXsense, h]; rfl

/-- Settles O35: the three line codes select their lines, XSENSE writes what `setSense` says, and code 3 selects none. -/
theorem xsenseSetsTheSensitivity : Obligations.XsenseSetsTheSensitivity := by
  refine ⟨⟨rfl, rfl, rfl, rfl⟩, fun s m => ⟨fun i code hcode => ?_, exec_xsense_of_none rfl (senseCode m) s⟩⟩
  have hi : lineOf code = some i := by
    simp only [List.mem_cons, Prod.mk.injEq, List.not_mem_nil, or_false] at hcode
    rcases hcode with ⟨rfl, rfl⟩ | ⟨rfl, rfl⟩ | ⟨rfl, rfl⟩ <;> rfl
  rw [exec_xsense_of_legal hi, setSense_eq]; rfl

/-- Settles O36: XSENSE clears the flag and loads PREV with the very level the next cycle samples, which is no edge. -/
theorem xsenseItselfMakesNoEdge : Obligations.XsenseItselfMakesNoEdge := by
  intro s m i code hm hi
  refine ⟨_, exec_xsense_of_legal hi m s, ?_⟩
  have hevent := lineEvent_of_level_eq_prev hm ((nextPins s.env).get i)
  simpa [samplePhase_flag_line, setSense_eq] using hevent

end Sys2Proof.Machine
end

section
/-! SUPPORT. What the commands, the actions and the pulse phase of the echo accumulator answer, case by case (O16, O38 to O40). -/

namespace Sys2Proof.Machine

/-! ### The commands -/

theorem exec_uinit (s : State) : exec .uinit s = .next ((uinitSeq Config.params s).respond 0) := rfl

theorem exec_gieset (s : State) : exec .gieset s = .next ((s.setGie true).respond 0) := rfl

theorem utrigSeq_of_on (P : Params) {s : State} (h : s.us.on = true) : utrigSeq P s = s := by simp [utrigSeq, h]

theorem utrigSeq_of_off (P : Params) {s : State} (h : s.us.on = false) :
    utrigSeq P s = { s with us := { s.us with on := true, pcnt := BitVec.ofNat 32 P.trigCycles, trig := true } } := by
  simp [utrigSeq, h]

theorem exec_utrig (s : State) : exec .utrig s = .next ((utrigSeq Config.params s).respond 0) := rfl

/-- Settles O38: the writes of UINIT are `uinitSeq_eq`. -/
theorem uinitArmsTheEchoLine : Obligations.UinitArmsTheEchoLine := by
  intro s
  rw [exec_uinit, uinitSeq_eq]; rfl

/-- Settles O39: UTRIG starts the pulse in OFF and does nothing in ON. -/
theorem utrigStartsOneSession : Obligations.UtrigStartsOneSession := by
  refine fun s => ⟨fun hoff => ?_, fun hon => ?_⟩
  · rw [exec_utrig, utrigSeq_of_off _ hoff]; rfl
  · rw [exec_utrig, utrigSeq_of_on _ hon]; rfl

/-- UREAD's DATA as a number: each field counts 2 to its lowest bit (43_ultrasonic.md R225). -/
theorem ureadData_toNat (u : Ultrasonic) :
    (ureadData u).toNat = u.resTicks.toNat + u.resTo.toNat * 2 ^ 24 + u.on.toNat * 2 ^ 25 + (edgeBit u.exp).toNat * 2 ^ 26 +
      (decide (u.pcnt ≠ 0)).toNat * 2 ^ 27 := by
  have hpcnt : (u.pcnt != 0) = decide (u.pcnt ≠ 0) := by simp [bne, beq_eq_decide]
  simp only [ureadData, append_toNat_eq_add, BitVec.toNat_ofBool, BitVec.toNat_ofNat, hpcnt]
  omega

/-- Settles O16: UREAD answers `ureadData`, whose value is the sum of its fields. -/
theorem ureadReturnsResultAndStatus : Obligations.UreadReturnsResultAndStatus :=
  ⟨rfl, rfl, fun s => ⟨ureadData s.us, rfl, ureadData_toNat s.us⟩⟩

/-! ### The echo actions -/

theorem sessionGate_iff (u : Ultrasonic) : sessionGate u = true ↔ u.on = true ∧ u.pcnt = 0 := by simp [sessionGate]

theorem echoEdge_of_gate_closed {s : State} (h : sessionGate s.us = false) : echoEdge s = s := by simp [echoEdge, h]

theorem echoEdge_of_rising {s : State} (h : sessionGate s.us = true) (he : s.us.exp = .rising) : echoEdge s = echoRise s := by
  simp [echoEdge, h, he]

theorem echoEdge_of_falling {s : State} (h : sessionGate s.us = true) (he : s.us.exp = .falling) :
    echoEdge s = echoFall s := by
  simp [echoEdge, h, he]

theorem echoOvf_of_gate_closed (P : Params) {s : State} (h : sessionGate s.us = false) : echoOvf P s = s := by
  simp [echoOvf, h]

theorem echoOvf_of_le {P : Params} {s : State} (h : sessionGate s.us = true) (hle : s.us.ovf.toNat + 1 ≤ P.maxOvf.val) :
    echoOvf P s = { s with us := { s.us with ovf := s.us.ovf + 1 } } := by
  rw [echoOvf, if_pos h, if_neg (Nat.not_lt.2 hle)]

theorem echoOvf_of_lt {P : Params} {s : State} (h : sessionGate s.us = true) (hlt : P.maxOvf.val < s.us.ovf.toNat + 1) :
    echoOvf P s = timeout s := by
  rw [echoOvf, if_pos h, if_pos hlt]

/-- Counting up to MAX_OVF does not wrap OVF (00_scope.md R7: MAX_OVF is at most 65534). -/
theorem ovf_succ_toNat {P : Params} {u : Ultrasonic} (hle : u.ovf.toNat + 1 ≤ P.maxOvf.val) :
    (u.ovf + 1).toNat = u.ovf.toNat + 1 := by
  have hlt : u.ovf.toNat + 1 < 2 ^ 16 := by have := P.maxOvf.isLt; omega
  simpa using Nat.mod_eq_of_lt hlt

/-- RES_TICKS holds the whole count (43_ultrasonic.md R236). -/
theorem echoFall_resTicks (s : State) : (echoFall s).us.resTicks.toNat = s.us.ovf.toNat * 256 + s.t2.cnt.toNat := by
  rw [echoFall_eq, BitVec.toNat_ofNat]
  exact Nat.mod_eq_of_lt (echoTicks_lt s.us s.t2)

/-- Settles O40: each action's cases are the gate, the expected edge, and the overflow against MAX_OVF. -/
theorem echoActions : Obligations.EchoActions := by
  refine ⟨fun s => ⟨fun h => ?_, fun hon hp he => ?_, fun hon hp he => ?_⟩,
    fun P s => ⟨fun h => ?_, fun hon hp hle => ?_, fun hon hp hlt => ?_⟩⟩
  · exact echoEdge_of_gate_closed (Bool.eq_false_iff.2 (mt (sessionGate_iff s.us).1 h))
  · rw [echoEdge_of_rising ((sessionGate_iff s.us).2 ⟨hon, hp⟩) he, echoRise_eq]
  · exact ⟨_, echoFall_resTicks s, echoEdge_of_falling ((sessionGate_iff s.us).2 ⟨hon, hp⟩) he⟩
  · exact echoOvf_of_gate_closed P (Bool.eq_false_iff.2 (mt (sessionGate_iff s.us).1 h))
  · rw [echoOvf_of_le ((sessionGate_iff s.us).2 ⟨hon, hp⟩) hle]
    exact ⟨ovf_succ_toNat hle, rfl⟩
  · rw [echoOvf_of_lt ((sessionGate_iff s.us).2 ⟨hon, hp⟩) hlt, timeout_eq]

/-! ### The PULSE phase -/

theorem pulsePhase_of_zero (P : Params) {s : State} (h : s.us.pcnt = 0) : pulsePhase P s = s := if_pos h

theorem pulsePhase_of_one (P : Params) {s : State} (h : s.us.pcnt = 1) :
    pulsePhase P s =
      { s with
        us   := { s.us with pcnt := 0, trig := false, exp := .rising, ovf := 0 }
        t2   := { s.t2 with mode := .normal, cs := .run P.rangingCs, cnt := 0, psc := 0 }
        flag := (s.flag.set .t2Ovf false).set (echoSrc P) false
        en   := s.en.set .t2Ovf true } := by
  simp [pulsePhase, h, pulseEnd_eq]

theorem pulsePhase_of_one_lt (P : Params) {s : State} (h : 1 < s.us.pcnt.toNat) :
    pulsePhase P s = { s with us := { s.us with pcnt := s.us.pcnt - 1 } } := by
  rcases pulsePhase_cases P s with ⟨h0, -⟩ | ⟨-, -, e⟩ | ⟨-, h1, -⟩
  · simp [h0] at h
  · exact e
  · bv_omega

end Sys2Proof.Machine
end

section
/-! SUPPORT. A DISPATCH phase seen by a measuring session: where no other enabled source runs an echo action, the phase comes to the
visits of RT_OVF and ECHO_SRC, whatever the other sources do (43_ultrasonic.md R221, 60_exceptions.md R326). -/

namespace Sys2Proof.Machine

open Statements

/-- `u` agrees with `s` on what a session reads in a DISPATCH phase: no source but RT_OVF and ECHO_SRC changes any of it. -/
structure SameSession (P : Params) (s u : State) : Prop where
  us       : u.us = s.us
  t2       : u.t2 = s.t2
  en       : u.en = s.en
  slot     : u.slot = s.slot
  gie      : u.gie = s.gie
  line     : u.line = s.line
  ovfFlag  : u.flag.get .t2Ovf = s.flag.get .t2Ovf
  echoFlag : u.flag.get (echoSrc P) = s.flag.get (echoSrc P)

namespace SameSession

variable {P : Params} {s u v : State}

theorem refl (P : Params) (s : State) : SameSession P s s := ⟨rfl, rfl, rfl, rfl, rfl, rfl, rfl, rfl⟩

theorem trans (h : SameSession P s u) (h' : SameSession P u v) : SameSession P s v :=
  ⟨h'.us.trans h.us, h'.t2.trans h.t2, h'.en.trans h.en, h'.slot.trans h.slot, h'.gie.trans h.gie, h'.line.trans h.line,
    h'.ovfFlag.trans h.ovfFlag, h'.echoFlag.trans h.echoFlag⟩

theorem noOtherEchoAction (h : SameSession P s u) (hs : NoOtherEchoAction P s) : NoOtherEchoAction P u := by
  simpa only [NoOtherEchoAction, h.en, h.slot] using hs

theorem rangingCycles_eq (h : SameSession P s u) : rangingCycles P u = rangingCycles P s := by
  simp only [rangingCycles, h.us, h.t2]

theorem measuring (h : SameSession P s u) (hs : Measuring P s) : Measuring P u where
  gie      := h.gie.trans hs.gie
  on       := by rw [h.us, hs.on]
  pulse    := by rw [h.us, hs.pulse]
  ovfSlot  := by rw [h.slot, hs.ovfSlot]
  echoSlot := by rw [h.slot, hs.echoSlot]
  ovfEn    := by rw [h.en, hs.ovfEn]
  echoEn   := by rw [h.en, hs.echoEn]
  others   := h.noOtherEchoAction hs.others
  ovfFlag  := h.ovfFlag.trans hs.ovfFlag
  echoFlag := h.echoFlag.trans hs.echoFlag
  sense    := by rw [h.line, hs.sense]
  mode     := by rw [h.t2, hs.mode]
  cs       := by rw [h.t2, hs.cs]
  psc      := by rw [h.t2]; exact hs.psc

theorem setFlag (h : SameSession P s u) (x : Src) (b : Bool) : SameSession P (s.setFlag x b) (u.setFlag x b) :=
  { h with
    ovfFlag := by simp only [State.setFlag_flag, PerSrc.get_set, h.ovfFlag]
    echoFlag := by simp only [State.setFlag_flag, PerSrc.get_set, h.echoFlag] }

/-- The echo actions read and write nothing but US, RT and the enables. -/
theorem echoEdge (h : SameSession P s u) : SameSession P (echoEdge s) (echoEdge u) := by
  rcases echoEdge_cases s with ⟨hg, e⟩ | ⟨hg, he, e⟩ | ⟨hg, he, e⟩ <;> rw [← h.us] at hg <;> rw [e]
  · rwa [echoEdge_of_gate_closed hg]
  · rw [← h.us] at he
    rw [echoEdge_of_rising hg he]
    exact { h with us := by rw [echoRise_eq, h.us]; rfl, t2 := by rw [echoRise_eq, h.t2]; rfl }
  · rw [← h.us] at he
    rw [echoEdge_of_falling hg he]
    exact { h with
      us := by rw [echoFall_eq, h.us, h.t2]; rfl
      t2 := by rw [echoFall_eq, h.t2]; rfl
      en := by rw [echoFall_eq, h.en]; rfl }

theorem echoOvf (h : SameSession P s u) : SameSession P (echoOvf P s) (echoOvf P u) := by
  rcases echoOvf_cases P s with ⟨hg, e⟩ | ⟨hg, hovf, e⟩ | ⟨hg, hovf, e⟩ <;> rw [← h.us] at hg <;> rw [e]
  · rwa [echoOvf_of_gate_closed P hg]
  · rw [← h.us] at hovf
    rw [echoOvf_of_lt hg hovf]
    exact { h with
      us := by rw [timeout_eq, h.us]; rfl
      t2 := by rw [timeout_eq, h.t2]; rfl
      en := by rw [timeout_eq, h.en]; rfl }
  · rw [← h.us] at hovf
    rw [echoOvf_of_le hg hovf]
    exact { h with us := by rw [h.us] }

theorem runAction (h : SameSession P s u) (a : Action) (x : Src) :
    SameSession P (runAction P a x s) (runAction P a x u) := by
  cases a with
  | null => exact h
  | hostIrq => exact { h with }
  | echoEdge => exact h.echoEdge
  | echoOvf => exact h.echoOvf
  | hb m1 m2 => exact { h with }

/-- The visit of one of the session's two sources is the same to the session in either state. -/
theorem dispatchSource (h : SameSession P s u) {x : Src} (hx : x = .t2Ovf ∨ x = echoSrc P) :
    SameSession P (dispatchSource P s x) (dispatchSource P u x) := by
  have hready : u.ready x = s.ready x := by
    rcases hx with rfl | rfl
    · rw [State.ready, State.ready, h.ovfFlag, h.en]
    · rw [State.ready, State.ready, h.echoFlag, h.en]
  rcases dispatchSource_cases P s x with ⟨hr, e⟩ | ⟨hr, e⟩ <;> rw [← hready] at hr <;> rw [e]
  · rwa [dispatchSource_of_not_ready P hr]
  · rw [dispatchSource_of_ready P hr, h.slot]
    exact (h.setFlag x false).runAction _ x

end SameSession

/-- A source that is not pending is not visited. -/
theorem dispatchSource_of_flag_false (P : Params) {s : State} {x : Src} (hf : s.flag.get x = false) :
    dispatchSource P s x = s :=
  dispatchSource_of_not_ready P (by rw [State.ready, hf]; rfl)

/-- The visit of another source changes nothing a session reads. -/
theorem dispatchSource_sameSession {P : Params} {s : State} (hs : NoOtherEchoAction P s) {x : Src} (hovf : x ≠ .t2Ovf)
    (hecho : x ≠ echoSrc P) : SameSession P s (dispatchSource P s x) := by
  have frame := dispatchSource_frame P s x
  obtain ⟨hus, ht2, hen, hflag⟩ := dispatchSource_of_not_echo P s x fun hr => by
    obtain ⟨-, hx⟩ : s.flag.get x = true ∧ s.en.get x = true := by simpa [State.ready] using hr
    exact hs x hovf hecho hx
  exact ⟨hus, ht2, hen, frame.slot, frame.gie, frame.line, hflag _ hovf.symm, hflag _ hecho.symm⟩

/-- No visit enables a source (60_exceptions.md R326, 41_events.md R189). -/
theorem dispatchSource_en_le (P : Params) (x : Src) {y : Src} {s : State} (hy : (dispatchSource P s x).en.get y = true) :
    s.en.get y = true := by
  rcases dispatchSource_cases P s x with ⟨-, e⟩ | ⟨-, e⟩ <;> rw [e] at hy
  · exact hy
  · exact runAction_en_le P (s := s.setFlag x false) _ x hy

/-- No visit enables a source or binds one, so none gives another source an echo action to run. -/
theorem dispatchSource_noOtherEchoAction {P : Params} {s : State} (hs : NoOtherEchoAction P s) (x : Src) :
    NoOtherEchoAction P (dispatchSource P s x) := by
  intro y hovf hecho hy
  rw [(dispatchSource_frame P s x).slot]
  exact hs y hovf hecho (dispatchSource_en_le P x hy)

/-- The visits of other sources, in any order, change nothing a session reads. -/
theorem foldl_dispatchSource_sameSession {P : Params} {l : List Src} {s : State} (hs : NoOtherEchoAction P s)
    (hl : ∀ x ∈ l, x ≠ .t2Ovf ∧ x ≠ echoSrc P) : SameSession P s (l.foldl (dispatchSource P) s) := by
  induction l generalizing s with
  | nil => exact .refl P s
  | cons x l ih =>
    obtain ⟨⟨hovf, hecho⟩, hl⟩ := List.forall_mem_cons.mp hl
    exact (dispatchSource_sameSession hs hovf hecho).trans (ih (dispatchSource_noOtherEchoAction hs x) hl)

/-- The dispatch order has RT_OVF before ECHO_SRC, each once (60_exceptions.md R322, R325). -/
theorem srcsInOrder_split (P : Params) : ∃ before between after,
    srcsInOrder = before ++ .t2Ovf :: (between ++ echoSrc P :: after) ∧
    (∀ x ∈ before, x ≠ .t2Ovf ∧ x ≠ echoSrc P) ∧ (∀ x ∈ between, x ≠ .t2Ovf ∧ x ≠ echoSrc P) ∧
    ∀ x ∈ after, x ≠ .t2Ovf ∧ x ≠ echoSrc P := by
  simp only [echoSrc]
  cases P.echoLine with
  | int0 => exact ⟨[.t0Cmp, .t0Ovf, .t1CmpA, .t1CmpB, .t1Capt, .t1Ovf, .t2Cmp], [], [.int1, .int2], rfl, by decide⟩
  | int1 => exact ⟨[.t0Cmp, .t0Ovf, .t1CmpA, .t1CmpB, .t1Capt, .t1Ovf, .t2Cmp], [.int0], [.int2], rfl, by decide⟩
  | int2 => exact ⟨[.t0Cmp, .t0Ovf, .t1CmpA, .t1CmpB, .t1Capt, .t1Ovf, .t2Cmp], [.int0, .int1], [], rfl, by decide⟩

/-- To a session a DISPATCH phase is the visit of RT_OVF and then that of ECHO_SRC. -/
theorem dispatchPhase_sameSession {P : Params} {s : State} (hgie : s.gie = true) (hs : NoOtherEchoAction P s) :
    SameSession P (dispatchSource P (dispatchSource P s .t2Ovf) (echoSrc P)) (dispatchPhase P s) := by
  obtain ⟨before, between, after, horder, hbefore, hbetween, hafter⟩ := srcsInOrder_split P
  simp only [dispatchPhase, if_pos hgie, horder, List.foldl_append, List.foldl_cons]
  have h1 := foldl_dispatchSource_sameSession hs hbefore
  have hs1 := dispatchSource_noOtherEchoAction (h1.noOtherEchoAction hs) .t2Ovf
  have h2 := (h1.dispatchSource (.inl rfl)).trans (foldl_dispatchSource_sameSession hs1 hbetween)
  have hs2 := dispatchSource_noOtherEchoAction
    ((foldl_dispatchSource_sameSession hs1 hbetween).noOtherEchoAction hs1) (echoSrc P)
  exact (h2.dispatchSource (.inr rfl)).trans (foldl_dispatchSource_sameSession hs2 hafter)

end Sys2Proof.Machine
end

section
/-! SUPPORT. A cycle as a measuring session sees it: what no cycle writes, the echo pin's levels, the count of the ranging timer
(43_ultrasonic.md R247, 40_timer.md R150), and the state in which the cycle's DISPATCH phase begins. -/

namespace Sys2Proof.Machine

open Statements

/-! ### What no cycle writes, read off `clockCycleFrame` -/

@[simp] theorem clockCycle_gie (P : Params) (s : State) : (clockCycle P s).gie = s.gie := (clockCycleFrame P s).1

@[simp] theorem clockCycle_slot (P : Params) (s : State) : (clockCycle P s).slot = s.slot := (clockCycleFrame P s).2.1

@[simp] theorem clockCycle_agenda (P : Params) (s : State) : (clockCycle P s).agenda = s.agenda := by
  obtain ⟨-, -, -, -, -, hagenda, -⟩ := clockCycleFrame P s
  exact hagenda

@[simp] theorem clockCycle_env (P : Params) (s : State) : (clockCycle P s).env = s.env.tail := by
  obtain ⟨-, -, -, -, -, -, henv, -⟩ := clockCycleFrame P s
  exact henv

theorem clockCycle_line_get (P : Params) (s : State) (i : Line) :
    (clockCycle P s).line.get i = ⟨(s.line.get i).sense, (nextPins s.env).get i⟩ := by
  obtain ⟨-, -, -, -, -, -, -, hline, -⟩ := clockCycleFrame P s
  exact hline i

theorem clockCycle_en_get (P : Params) (s : State) {x : Src} (hx : x ≠ .t2Ovf) :
    (clockCycle P s).en.get x = s.en.get x := by
  obtain ⟨-, -, -, -, -, -, -, -, -, -, -, hen⟩ := clockCycleFrame P s
  exact hen x hx

/-! ### The echo pin over a run of cycles -/

theorem echoPinAt_clockCycle (P : Params) (s : State) (j : Nat) : echoPinAt P (clockCycle P s) j = echoPinAt P s (j + 1) := by
  simp [echoPinAt]

theorem echoPinAt_clockCycles (P : Params) (k : Nat) (s : State) (j : Nat) :
    echoPinAt P (clockCycles P k s) j = echoPinAt P s (k + j) := by
  induction k generalizing s with
  | zero => rw [clockCycles_zero, Nat.zero_add]
  | succ k ih => rw [clockCycles_succ, ih, echoPinAt_clockCycle]; congr 1; omega

/-- A cycle leaves its level in PREV of the echo line (42_exti.md R205). -/
theorem clockCycle_prev (P : Params) (s : State) : ((clockCycle P s).line.get P.echoLine).prev = echoPinAt P s 0 := by
  rw [clockCycle_line_get]; rfl

/-! ### Runs with an empty agenda -/

theorem run_of_agenda_nil {s : State} (h : s.agenda = []) (k : Nat) : run k s = .next (clockCycles Config.params k s) := by
  induction k generalizing s with
  | zero => rfl
  | succ k ih =>
    have hstep : core.step s = .next (clockCycle Config.params s) := step_of_agenda_nil h
    have hrun : run (k + 1) s = run k (clockCycle Config.params s) := by simp only [run, Host.Core.run, hstep]; rfl
    rw [hrun, ih (by rw [clockCycle_agenda, h]), clockCycles_succ]

/-! ### The count -/

/-- The state in which a cycle's DISPATCH phase begins (10_state.md R33). -/
def atDispatch (P : Params) (s : State) : State := samplePhase (nextPins s.env) (pulsePhase P (tickPhase s))

theorem clockCycle_eq (P : Params) (s : State) :
    clockCycle P s = { dispatchPhase P (atDispatch P s) with env := (dispatchPhase P (atDispatch P s)).env.tail } := rfl

theorem clockCycle_us (P : Params) (s : State) : (clockCycle P s).us = (dispatchPhase P (atDispatch P s)).us := rfl

/-- The SAMPLE phase writes no flag of a timer (42_exti.md R205). -/
theorem samplePhase_flag_t2Ovf (p : Pins) (s : State) : (samplePhase p s).flag.get .t2Ovf = s.flag.get .t2Ovf := rfl

/-- To a session a cycle with GIE = 1 is TICK, PULSE and SAMPLE, and the visits of RT_OVF and ECHO_SRC. -/
theorem clockCycle_sameSession {P : Params} {s : State} (hgie : (atDispatch P s).gie = true)
    (hs : NoOtherEchoAction P (atDispatch P s)) :
    SameSession P (dispatchSource P (dispatchSource P (atDispatch P s) .t2Ovf) (echoSrc P)) (clockCycle P s) := by
  rw [clockCycle_eq]
  exact { dispatchPhase_sameSession hgie hs with }

/-- A tick in NORMAL mode adds one to the count, a wrap of its 256 values being in the overflow event (40_timer.md R151, R153). -/
theorem tick8_count {t : Timer8} (hmode : t.mode = .normal) :
    (tickEvents8 t).ovf.toNat * 256 + (tick8 t).cnt.toNat = t.cnt.toNat + 1 := by
  have htop : top8 t = 255 := by rw [top8, hmode]; rfl
  have hovf : (tickEvents8 t).ovf = decide (t.cnt.toNat = 255) := by
    rw [Bool.eq_iff_iff, decide_eq_true_iff]
    simp [tickEvents8, overflowEvent_iff, hmode, isFastPwm8]
  have hmax : t.cnt = 255 ∨ t.cnt.toNat = 2 ^ 8 - 1 ↔ t.cnt.toNat = 255 := by
    rw [← BitVec.toNat_inj]; exact or_self_iff
  rw [tick8_cnt, countAfterTick_toNat, htop, hovf]
  simp only [hmax]
  by_cases h : t.cnt.toNat = 255 <;> simp [h]

/-- A cycle of RT in NORMAL mode adds one to its count of cycles: PSC counts up, or the cycle ticks with PSC back at 0 (R150). -/
theorem clock8_count {t : Timer8} {d : ClockDiv} (hmode : t.mode = .normal) (hcs : t.cs = .run d)
    (hpsc : t.psc.toNat < divisor d) :
    (clock8 t).psc.toNat < divisor d ∧
    ((clockEvents8 t).ovf.toNat * 256 + (clock8 t).cnt.toNat) * divisor d + (clock8 t).psc.toNat =
      t.cnt.toNat * divisor d + t.psc.toNat + 1 := by
  obtain ⟨hpos, hle⟩ := divisor_bounds d
  rw [(clockEvents8_fields t).2, hcs, clock8_of_run hcs]
  by_cases htick : divisor d - 1 ≤ t.psc.toNat
  case neg =>
    have hsucc : (t.psc + 1).toNat = t.psc.toNat + 1 := by
      have hlt : t.psc.toNat + 1 < 2 ^ 10 := by omega
      simpa using Nat.mod_eq_of_lt hlt
    have hnone : prescalerTicks (.run d) t.psc = false := by simpa [prescalerTicks] using htick
    simp only [if_neg htick, hnone, hsucc, Bool.false_and, Bool.toNat_false, Nat.zero_mul, Nat.zero_add]
    omega
  case pos =>
    have hcount := tick8_count (t := { t with psc := 0 }) hmode
    have hpsc0 : (tick8 { t with psc := 0 }).psc.toNat = 0 := rfl
    rw [if_pos htick, (prescalerTicks_run_iff d t.psc).2 htick, Bool.true_and, hpsc0]
    refine ⟨hpos, ?_⟩
    calc _ = (t.cnt.toNat + 1) * divisor d := congrArg (· * divisor d) hcount
      _ = _ := by rw [Nat.add_mul]; omega

/-- `a` ticks of `n` cycles and `p` cycles of the next tick are `a` whole ticks. -/
theorem ticks_of_cycles {a n p : Nat} (hp : p < n) : (a * n + p) / n = a := by
  rw [Nat.mul_comm, Nat.mul_add_div (by omega), Nat.div_eq_of_lt hp, Nat.add_zero]

/-- A count of `o` overflows is below the timeout exactly while `o` is at most MAX_OVF (43_ultrasonic.md R238, R247). -/
theorem count_lt_timeoutCycles_iff {P : Params} {o c p : Nat} (hc : c < 256) (hp : p < divisor P.rangingCs) :
    (o * 256 + c) * divisor P.rangingCs + p < timeoutCycles P ↔ o ≤ P.maxOvf.val := by
  rw [timeoutCycles, ← Nat.div_lt_iff_lt_mul (by omega), ticks_of_cycles hp]
  omega

/-! ### A measuring session when DISPATCH begins -/

end Sys2Proof.Machine

namespace Sys2Proof.Statements.Measuring

open Sys2Proof.Machine

variable {P : Params} {s : State} (hm : Measuring P s)
include hm

theorem gate : sessionGate s.us = true := (sessionGate_iff s.us).2 ⟨hm.on, hm.pulse⟩

/-- The PULSE phase does nothing to a measuring session (R230). -/
theorem atDispatch_eq : atDispatch P s = samplePhase (nextPins s.env) (tickPhase s) := by
  rw [atDispatch, pulsePhase_of_zero P (s := tickPhase s) hm.pulse]

theorem atDispatch_us : (atDispatch P s).us = s.us := by simp [hm.atDispatch_eq]

theorem atDispatch_t2 : (atDispatch P s).t2 = clock8 s.t2 := by simp [hm.atDispatch_eq]

/-- RT_OVF is pending if RT overflowed in this cycle. -/
theorem atDispatch_ovfFlag : (atDispatch P s).flag.get .t2Ovf = (clockEvents8 s.t2).ovf := by
  have hflag : s.flag.t2Ovf = false := hm.ovfFlag
  rw [hm.atDispatch_eq, samplePhase_flag_t2Ovf]
  simp [tickPhase, PerSrc.get, hflag]

/-- ECHO_SRC is pending if the echo pin changed in this cycle. -/
theorem atDispatch_echoFlag :
    (atDispatch P s).flag.get (echoSrc P) = (echoPinAt P s 0 != (s.line.get P.echoLine).prev) := by
  rw [hm.atDispatch_eq, echoSrc, samplePhase_flag_line, tickPhase_flag_line, ← echoSrc, hm.echoFlag, tickPhase_line]
  simp [lineEvent, hm.sense, echoPinAt]

/-- The session is still measuring when DISPATCH begins, but for its two flags. -/
theorem measuring_atDispatch :
    Measuring P (((atDispatch P s).setFlag .t2Ovf false).setFlag (echoSrc P) false) where
  gie      := by simp [hm.atDispatch_eq, hm.gie]
  on       := by simp [hm.atDispatch_eq, hm.on]
  pulse    := by simp [hm.atDispatch_eq, hm.pulse]
  ovfSlot  := by simp [hm.atDispatch_eq, hm.ovfSlot]
  echoSlot := by simp [hm.atDispatch_eq, hm.echoSlot]
  ovfEn    := by simp [hm.atDispatch_eq, hm.ovfEn]
  echoEn   := by simp [hm.atDispatch_eq, hm.echoEn]
  others   := by simpa [NoOtherEchoAction, hm.atDispatch_eq] using hm.others
  ovfFlag  := by simp
  echoFlag := by simp
  sense    := by simp [hm.atDispatch_eq, samplePhase_line_get, hm.sense]
  mode     := by simp [hm.atDispatch_eq, hm.mode]
  cs       := by simp [hm.atDispatch_eq, hm.cs]
  psc      := by
    rw [State.setFlag_t2, State.setFlag_t2, hm.atDispatch_t2]
    exact (clock8_count hm.mode hm.cs hm.psc).1

/-- When DISPATCH begins the count has gone up by one, with an overflow of RT still in its flag. -/
theorem atDispatch_count :
    ((s.us.ovf.toNat + ((atDispatch P s).flag.get .t2Ovf).toNat) * 256 +
      (clock8 s.t2).cnt.toNat) * divisor P.rangingCs + (clock8 s.t2).psc.toNat = rangingCycles P s + 1 := by
  have hcount := (clock8_count hm.mode hm.cs hm.psc).2
  rw [hm.atDispatch_ovfFlag, rangingCycles]
  simp only [Nat.add_mul] at hcount ⊢
  omega

end Sys2Proof.Statements.Measuring
end

section
/-! SUPPORT. One cycle of a measuring session (43_ultrasonic.md R235 to R240, R246): it counts, it times out, or an edge of the echo
line restarts the count or ends the session with its value (O41). -/

namespace Sys2Proof.Statements.Measuring

open Sys2Proof.Machine

variable {P : Params} {s : State}

/-- The visit of a pending ECHO_SRC runs ECHO_EDGE (41_events.md R188). -/
theorem echoVisit {v : State} (hv : Measuring P (v.setFlag (echoSrc P) false)) (hf : v.flag.get (echoSrc P) = true) :
    dispatchSource P v (echoSrc P) = echoEdge (v.setFlag (echoSrc P) false) := by
  have hen : v.en.get (echoSrc P) = true := hv.echoEn
  have hslot : v.slot.get (echoSrc P) = .echoEdge := hv.echoSlot
  rw [dispatchSource_of_ready P (by rw [State.ready, hf, hen]; rfl), hslot]; rfl

/-- The visit of a pending RT_OVF runs ECHO_OVF. -/
theorem ovfVisit {d : State} (hd : Measuring P ((d.setFlag .t2Ovf false).setFlag (echoSrc P) false))
    (hf : d.flag.get .t2Ovf = true) : dispatchSource P d .t2Ovf = echoOvf P (d.setFlag .t2Ovf false) := by
  have hen : d.en.get .t2Ovf = true := hd.ovfEn
  have hslot : d.slot.get .t2Ovf = .echoOvf := hd.ovfSlot
  rw [dispatchSource_of_ready P (by rw [State.ready, hf, hen]; rfl), hslot]; rfl

/-- RT_OVF's visit with the overflows within MAX_OVF: the flag's overflow has gone into OVF, and nothing else a session reads has
changed. -/
theorem ovfVisit_counts {d : State} (hd : Measuring P ((d.setFlag .t2Ovf false).setFlag (echoSrc P) false))
    (hle : d.us.ovf.toNat + (d.flag.get .t2Ovf).toNat ≤ P.maxOvf.val) :
    let v := dispatchSource P d .t2Ovf
    Measuring P (v.setFlag (echoSrc P) false) ∧ v.flag.get (echoSrc P) = d.flag.get (echoSrc P) ∧ v.us.exp = d.us.exp ∧
    v.t2 = d.t2 ∧ v.us.ovf.toNat = d.us.ovf.toNat + (d.flag.get .t2Ovf).toNat := by
  intro v
  cases hf : d.flag.get .t2Ovf with
  | false =>
    have hv : v = d := dispatchSource_of_flag_false P hf
    rw [hv]
    exact ⟨{ hd with ovfFlag := by simp [hf], echoFlag := by simp }, rfl, rfl, rfl, rfl⟩
  | true =>
    rw [hf, Bool.toNat_true] at hle
    have hv : v = { d.setFlag .t2Ovf false with us := { d.us with ovf := d.us.ovf + 1 } } :=
      (ovfVisit hd hf).trans (echoOvf_of_le (s := d.setFlag .t2Ovf false) hd.gate hle)
    rw [hv]
    exact ⟨{ hd with }, by simp [(echoSrc_ne_t2Ovf P).symm], rfl, rfl, ovf_succ_toNat hle⟩

section Cycle

variable (hm : Measuring P s)
include hm

/-- To a measuring session a cycle is TICK, PULSE and SAMPLE, and the visits of its two sources. -/
theorem clockCycle_visits :
    SameSession P (dispatchSource P (dispatchSource P (atDispatch P s) .t2Ovf) (echoSrc P)) (clockCycle P s) :=
  clockCycle_sameSession (by simpa using hm.measuring_atDispatch.gie)
    (by simpa [NoOtherEchoAction] using hm.measuring_atDispatch.others)

/-- The cycle's count is below the timeout exactly if its overflow can still be counted. -/
theorem count_succ_lt_iff :
    rangingCycles P s + 1 < timeoutCycles P ↔
      s.us.ovf.toNat + ((atDispatch P s).flag.get .t2Ovf).toNat ≤ P.maxOvf.val := by
  rw [← hm.atDispatch_count]
  exact count_lt_timeoutCycles_iff (clock8 s.t2).cnt.isLt (clock8_count hm.mode hm.cs hm.psc).1

/-- A cycle below the timeout has counted by the time ECHO_SRC is visited: `v` is the state of that visit, pending if the echo pin
changed (R246: the overflow is counted before the edge). -/
theorem clockCycle_counts (hc : rangingCycles P s + 1 < timeoutCycles P) :
    ∃ v, SameSession P (dispatchSource P v (echoSrc P)) (clockCycle P s) ∧ Measuring P (v.setFlag (echoSrc P) false) ∧
      v.flag.get (echoSrc P) = (echoPinAt P s 0 != (s.line.get P.echoLine).prev) ∧ v.us.exp = s.us.exp ∧
      rangingCycles P v = rangingCycles P s + 1 := by
  have hle := hm.count_succ_lt_iff.1 hc
  rw [← hm.atDispatch_us] at hle
  obtain ⟨hv, hflag, hexp, ht2, hovf⟩ := ovfVisit_counts hm.measuring_atDispatch hle
  refine ⟨_, hm.clockCycle_visits, hv, hflag.trans hm.atDispatch_echoFlag, ?_, ?_⟩
  · rw [hexp, hm.atDispatch_us]
  · rw [rangingCycles, hovf, ht2, hm.atDispatch_us, hm.atDispatch_t2, hm.atDispatch_count]

/-- A cycle without an edge goes on measuring, and counts. -/
theorem clockCycle_quiet (hc : rangingCycles P s + 1 < timeoutCycles P)
    (hpin : echoPinAt P s 0 = (s.line.get P.echoLine).prev) :
    Measuring P (clockCycle P s) ∧ rangingCycles P (clockCycle P s) = rangingCycles P s + 1 ∧
    (clockCycle P s).us.exp = s.us.exp := by
  obtain ⟨v, hsame, hv, hflag, hexp, hcount⟩ := hm.clockCycle_counts hc
  have hflag : v.flag.get (echoSrc P) = false := by simpa [hpin] using hflag
  rw [dispatchSource_of_flag_false P hflag] at hsame
  have hmv : Measuring P v := { hv with
    ovfFlag := by simpa using hv.ovfFlag
    echoFlag := hflag }
  exact ⟨hsame.measuring hmv, by rw [hsame.rangingCycles_eq, hcount], by rw [hsame.us, hexp]⟩

/-- The rising edge restarts the count, but for the prescaler, and goes on measuring (R235). -/
theorem clockCycle_rising (hc : rangingCycles P s + 1 < timeoutCycles P) (he : s.us.exp = .rising)
    (hpin : echoPinAt P s 0 ≠ (s.line.get P.echoLine).prev) :
    Measuring P (clockCycle P s) ∧ rangingCycles P (clockCycle P s) < divisor P.rangingCs ∧
    (clockCycle P s).us.exp = .falling := by
  obtain ⟨v, hsame, hv, hflag, hexp, -⟩ := hm.clockCycle_counts hc
  have hrise : dispatchSource P v (echoSrc P) = echoRise (v.setFlag (echoSrc P) false) :=
    (echoVisit hv (hflag.trans (bne_iff_ne.2 hpin))).trans (echoEdge_of_rising hv.gate (hexp.trans he))
  rw [hrise, echoRise_eq] at hsame
  refine ⟨hsame.measuring { hv with }, ?_, by rw [hsame.us]⟩
  rw [hsame.rangingCycles_eq]
  simpa [rangingCycles] using hv.psc

/-- The falling edge ends the session with the count in ticks, the cycle's own tick and wrap counted (R236, R246). -/
theorem clockCycle_falling (hc : rangingCycles P s + 1 < timeoutCycles P) (he : s.us.exp = .falling)
    (hpin : echoPinAt P s 0 ≠ (s.line.get P.echoLine).prev) :
    (clockCycle P s).us.on = false ∧ (clockCycle P s).us.resTo = false ∧
    (clockCycle P s).us.resTicks.toNat = (rangingCycles P s + 1) / divisor P.rangingCs := by
  obtain ⟨v, hsame, hv, hflag, hexp, hcount⟩ := hm.clockCycle_counts hc
  have hfall : dispatchSource P v (echoSrc P) = echoFall (v.setFlag (echoSrc P) false) :=
    (echoVisit hv (hflag.trans (bne_iff_ne.2 hpin))).trans (echoEdge_of_falling hv.gate (hexp.trans he))
  have hus := hsame.us
  rw [hfall] at hus
  refine ⟨by rw [hus]; rfl, by rw [hus]; rfl, ?_⟩
  rw [hus, echoFall_resTicks, ← hcount]
  exact (ticks_of_cycles hv.psc).symm

/-- A cycle that reaches the timeout without an edge times the session out (R238, R239). -/
theorem clockCycle_timeout (hc : rangingCycles P s + 1 = timeoutCycles P) (hovf : s.us.ovf.toNat ≤ P.maxOvf.val)
    (hpin : echoPinAt P s 0 = (s.line.get P.echoLine).prev) :
    let u := clockCycle P s
    u.us.on = false ∧ u.us.resTo = true ∧ u.us.resTicks = 0 ∧ u.t2.cs = .stop ∧ u.en.get .t2Ovf = false := by
  intro u
  have hlt := mt hm.count_succ_lt_iff.2 (by omega)
  have hmd := hm.measuring_atDispatch
  have hf : (atDispatch P s).flag.get .t2Ovf = true := by
    by_contra hf
    rw [Bool.not_eq_true] at hf
    exact hlt (by simpa [hf] using hovf)
  have hvisit : dispatchSource P (atDispatch P s) .t2Ovf = timeout ((atDispatch P s).setFlag .t2Ovf false) := by
    refine (ovfVisit hmd hf).trans (echoOvf_of_lt hmd.gate ?_)
    rw [State.setFlag_us, hm.atDispatch_us]
    simpa [hf] using hlt
  have hsame := hm.clockCycle_visits
  rw [hvisit, dispatchSource_of_flag_false P (by simp [timeout_eq, hm.atDispatch_echoFlag, hpin])] at hsame
  exact ⟨by rw [hsame.us]; rfl, by rw [hsame.us]; rfl, by rw [hsame.us]; rfl, by rw [hsame.t2]; rfl,
    by rw [hsame.en]; simp [timeout_eq]⟩

end Cycle

end Sys2Proof.Statements.Measuring

namespace Sys2Proof.Machine

open Statements

/-- Settles O41: the wrap brings the count to `(OVF + 1) * 256` ticks before the falling edge takes it. -/
theorem overflowCountsBeforeTheEdge : Obligations.OverflowCountsBeforeTheEdge := by
  intro P s hm he hle hcnt hpsc hpin
  have hcount : rangingCycles P s + 1 = (s.us.ovf.toNat + 1) * 256 * divisor P.rangingCs := by
    have hcnt' : s.t2.cnt.toNat = 255 := by rw [hcnt]; rfl
    calc rangingCycles P s + 1 = (s.us.ovf.toNat * 256 + 255) * divisor P.rangingCs + divisor P.rangingCs := by
          rw [rangingCycles, hcnt', ← hpsc, Nat.add_assoc]
      _ = _ := by ring
  have hpos := (divisor_bounds P.rangingCs).1
  have hlt : rangingCycles P s + 1 < timeoutCycles P := by
    rw [hcount, timeoutCycles]
    exact Nat.mul_lt_mul_of_pos_right (by omega) hpos
  obtain ⟨hon, hto, hticks⟩ := hm.clockCycle_falling hlt he hpin
  exact ⟨by rw [hticks, hcount, Nat.mul_div_cancel _ hpos], hto, hon⟩

end Sys2Proof.Machine
end

section
/-! SUPPORT. Runs of a measuring session (43_ultrasonic.md R245, R247): the count goes up by one in each cycle without an edge, up to
the timeout (O43), and an echo's count is its length in cycles (O44). -/

namespace Sys2Proof.Machine

open Statements

/-- PREV of the echo line stays while the pin stands still. -/
theorem clockCycles_prev {P : Params} {k : Nat} {s : State}
    (hpin : ∀ j, j < k → echoPinAt P s j = (s.line.get P.echoLine).prev) :
    ((clockCycles P k s).line.get P.echoLine).prev = (s.line.get P.echoLine).prev := by
  induction k generalizing s with
  | zero => rfl
  | succ k ih =>
    have hprev : ((clockCycle P s).line.get P.echoLine).prev = (s.line.get P.echoLine).prev :=
      (clockCycle_prev P s).trans (hpin 0 (by omega))
    rw [clockCycles_succ, ih fun j hj => ?_, hprev]
    rw [hprev, echoPinAt_clockCycle]
    exact hpin (j + 1) (by omega)

theorem timeoutCycles_pos (P : Params) : 0 < timeoutCycles P :=
  Nat.mul_pos (by omega) (divisor_bounds P.rangingCs).1

/-- A count that starts below one tick and runs `k` cycles is within one tick of `k` (43_ultrasonic.md R245). -/
theorem ticks_within_one {n p k : Nat} (hp : p < n) :
    k / n ≤ (p + k) / n ∧ (p + k) / n ≤ (k + n - 1) / n ∧ (p + k) / n * n < k + n ∧ k < ((p + k) / n + 1) * n := by
  have hle : (p + k) / n * n ≤ p + k := Nat.div_mul_le_self _ _
  have hlt : p + k < ((p + k) / n + 1) * n := by
    rw [Nat.mul_comm]; exact Nat.lt_mul_div_succ _ (by omega)
  exact ⟨Nat.div_le_div_right (by omega), Nat.div_le_div_right (by omega), by omega, by omega⟩

end Sys2Proof.Machine

namespace Sys2Proof.Statements.Measuring

open Sys2Proof.Machine

variable {P : Params} {k : Nat} {s : State} (hm : Measuring P s)
include hm

/-- `k` cycles without an edge and below the timeout go on measuring, and count `k`. -/
theorem clockCycles_quiet (hc : rangingCycles P s + k < timeoutCycles P)
    (hpin : ∀ j, j < k → echoPinAt P s j = (s.line.get P.echoLine).prev) :
    Measuring P (clockCycles P k s) ∧ rangingCycles P (clockCycles P k s) = rangingCycles P s + k ∧
    (clockCycles P k s).us.exp = s.us.exp := by
  induction k with
  | zero => exact ⟨hm, rfl, rfl⟩
  | succ k ih =>
    have hquiet : ∀ j, j < k → echoPinAt P s j = (s.line.get P.echoLine).prev := fun j hj => hpin j (by omega)
    obtain ⟨hmk, hck, hek⟩ := ih (by omega) hquiet
    have hpink : echoPinAt P (clockCycles P k s) 0 = ((clockCycles P k s).line.get P.echoLine).prev := by
      rw [echoPinAt_clockCycles, clockCycles_prev hquiet]
      exact hpin k (by omega)
    obtain ⟨hm', hc', he'⟩ := hmk.clockCycle_quiet (by omega) hpink
    rw [clockCycles_succ']
    exact ⟨hm', by omega, he'.trans hek⟩

/-- From a count of 0 the cycle that reaches the timeout, with no edge before or in it, times the session out (R247). -/
theorem clockCycles_timeout (hzero : rangingCycles P s = 0) (hk : k + 1 = timeoutCycles P)
    (hpin : ∀ j, j < k + 1 → echoPinAt P s j = (s.line.get P.echoLine).prev) :
    let u := clockCycles P (k + 1) s
    u.us.on = false ∧ u.us.resTo = true ∧ u.us.resTicks = 0 ∧ u.t2.cs = .stop ∧ u.en.get .t2Ovf = false := by
  have hquiet (j : Nat) (hj : j < k) := hpin j (by omega)
  obtain ⟨hmk, hck, -⟩ := hm.clockCycles_quiet (by omega) hquiet
  have hlt : rangingCycles P (clockCycles P k s) < timeoutCycles P := by omega
  have hovf := (count_lt_timeoutCycles_iff (clockCycles P k s).t2.cnt.isLt hmk.psc).1 hlt
  rw [clockCycles_succ']
  refine hmk.clockCycle_timeout (by omega) hovf ?_
  rw [echoPinAt_clockCycles, clockCycles_prev hquiet]
  exact hpin k (by omega)

/-- An echo whose falling edge comes `k + 1` cycles after its rising edge: the count starts at the prescaler's value `p`, which is
below one tick, and the session ends with its ticks (R235, R236). -/
theorem clockCycles_echo (he : s.us.exp = .rising) (hc : rangingCycles P s + 1 < timeoutCycles P)
    (hrise : echoPinAt P s 0 ≠ (s.line.get P.echoLine).prev)
    (hquiet : ∀ j, j < k → echoPinAt P s (j + 1) = echoPinAt P s 0) (hfall : echoPinAt P s (k + 1) ≠ echoPinAt P s 0)
    (hlt : k + 1 + divisor P.rangingCs ≤ timeoutCycles P) :
    let u := clockCycles P (k + 2) s
    u.us.on = false ∧ u.us.resTo = false ∧
    ∃ p, p < divisor P.rangingCs ∧ u.us.resTicks.toNat = (p + (k + 1)) / divisor P.rangingCs := by
  obtain ⟨hm1, hc1, he1⟩ := hm.clockCycle_rising hc he hrise
  have hprev := clockCycle_prev P s
  have hquiet1 (j : Nat) (hj : j < k) :
      echoPinAt P (clockCycle P s) j = ((clockCycle P s).line.get P.echoLine).prev := by
    rw [echoPinAt_clockCycle, hprev]
    exact hquiet j hj
  obtain ⟨hm2, hc2, he2⟩ := hm1.clockCycles_quiet (by omega) hquiet1
  have hfall2 : echoPinAt P (clockCycles P k (clockCycle P s)) 0 ≠
      ((clockCycles P k (clockCycle P s)).line.get P.echoLine).prev := by
    rw [echoPinAt_clockCycles, echoPinAt_clockCycle, clockCycles_prev hquiet1, hprev]
    exact hfall
  obtain ⟨hon, hto, hticks⟩ := hm2.clockCycle_falling (by omega) (he2.trans he1) hfall2
  rw [hc2, Nat.add_assoc] at hticks
  rw [clockCycles_succ', clockCycles_succ]
  exact ⟨hon, hto, _, hc1, hticks⟩

end Sys2Proof.Statements.Measuring

namespace Sys2Proof.Machine

open Statements

/-- Settles O43: the count goes from 0 up by one in each cycle, and the cycle that reaches `timeoutCycles` times the session out. -/
theorem sessionWithoutEchoTimesOut : Obligations.SessionWithoutEchoTimesOut := by
  intro s hagenda hm hzero hpin
  refine ⟨fun k hk => ⟨_, run_of_agenda_nil hagenda k, ?_⟩, _, run_of_agenda_nil hagenda _, ?_⟩
  · obtain ⟨hmk, -⟩ := hm.clockCycles_quiet (k := k) (by omega) fun j hj => hpin j (by omega)
    exact hmk.on
  · obtain ⟨k, hk⟩ := Nat.exists_eq_add_one_of_ne_zero (timeoutCycles_pos Config.params).ne'
    rw [hk] at hpin ⊢
    exact hm.clockCycles_timeout hzero hk.symm hpin

/-- Settles O44: the rising edge leaves a count of less than one tick, and the falling edge takes it `k` cycles later. -/
theorem echoMeasuresTheEdgeDistance : Obligations.EchoMeasuresTheEdgeDistance := by
  intro s k hagenda hm he hc hk hrise hquiet hfall hlt
  obtain ⟨m, rfl⟩ := Nat.exists_eq_add_one_of_ne_zero hk.ne'
  have hquiet' (j : Nat) (hj : j < m) := hquiet (j + 1) (by omega) (by omega)
  obtain ⟨hon, hto, p, hp, hticks⟩ := hm.clockCycles_echo he hc hrise hquiet' hfall hlt
  refine ⟨_, run_of_agenda_nil hagenda _, hon, hto, ?_⟩
  rw [hticks]
  exact ticks_within_one hp

end Sys2Proof.Machine
end

section
/-! SUPPORT. The trigger pulse (43_ultrasonic.md R230, R231): PCNT counts down with the session ON (O42), and its end begins the
measurement (O60). -/

namespace Sys2Proof.Machine

open Statements

/-! ### The pulse's cycles -/

/-- Outside the measuring phase no action touches the session (43_ultrasonic.md R237, R240). -/
theorem runAction_us_of_gate_closed (P : Params) (a : Action) (x : Src) {s : State} (hg : sessionGate s.us = false) :
    (runAction P a x s).us = s.us := by
  rcases runAction_cases P a x s with e | e | ⟨-, e⟩ | ⟨-, e⟩ | ⟨m1, m2, -, e⟩ <;> rw [e]
  · rfl
  · rw [echoEdge_of_gate_closed hg]
  · rw [echoOvf_of_gate_closed P hg]
  · rfl

/-- No action writes TRIG or PCNT (R235 to R239). -/
theorem runAction_pulse (P : Params) (a : Action) (x : Src) (s : State) :
    (runAction P a x s).us.trig = s.us.trig ∧ (runAction P a x s).us.pcnt = s.us.pcnt := by
  rcases runAction_cases P a x s with e | e | ⟨-, e⟩ | ⟨-, e⟩ | ⟨m1, m2, -, e⟩ <;> rw [e]
  · exact ⟨rfl, rfl⟩
  · exact ⟨rfl, rfl⟩
  · rcases echoEdge_cases s with ⟨-, e'⟩ | ⟨-, -, e'⟩ | ⟨-, -, e'⟩ <;> rw [e'] <;> exact ⟨rfl, rfl⟩
  · rcases echoOvf_cases P s with ⟨-, e'⟩ | ⟨-, -, e'⟩ | ⟨-, -, e'⟩ <;> rw [e'] <;> exact ⟨rfl, rfl⟩
  · exact ⟨rfl, rfl⟩

theorem dispatchPhase_us_of_gate_closed (P : Params) {s : State} (h : sessionGate s.us = false) :
    (dispatchPhase P s).us = s.us := by
  refine dispatchPhase_induct P (fun u => u.us = s.us) rfl fun u x hu => ?_
  rcases dispatchSource_cases P u x with ⟨-, e⟩ | ⟨-, e⟩ <;> rw [e]
  · exact hu
  · rw [runAction_us_of_gate_closed P _ x (by rw [State.setFlag_us, hu, h])]
    exact hu

theorem dispatchPhase_pulse (P : Params) (s : State) :
    (dispatchPhase P s).us.trig = s.us.trig ∧ (dispatchPhase P s).us.pcnt = s.us.pcnt := by
  refine dispatchPhase_induct P (fun u => u.us.trig = s.us.trig ∧ u.us.pcnt = s.us.pcnt) ⟨rfl, rfl⟩ fun u x hu => ?_
  rcases dispatchSource_cases P u x with ⟨-, e⟩ | ⟨-, e⟩ <;> rw [e]
  · exact hu
  · obtain ⟨ht, hp⟩ := runAction_pulse P (u.slot.get x) x (u.setFlag x false)
    exact ⟨ht.trans hu.1, hp.trans hu.2⟩

/-- A cycle of the pulse but its last counts PCNT down and leaves the rest of the session. -/
theorem clockCycle_us_of_one_lt (P : Params) {s : State} (h : 1 < s.us.pcnt.toNat) :
    (clockCycle P s).us = { s.us with pcnt := s.us.pcnt - 1 } := by
  have hus : (atDispatch P s).us = { s.us with pcnt := s.us.pcnt - 1 } := by
    simp [atDispatch, pulsePhase_of_one_lt P (s := tickPhase s) h]
  have hgate : sessionGate (atDispatch P s).us = false := by
    have hne : s.us.pcnt - 1 ≠ 0 := by bv_omega
    simpa [hus, sessionGate] using fun _ => hne
  rw [clockCycle_us, dispatchPhase_us_of_gate_closed P hgate, hus]

/-- The pulse after `k` of its cycles. -/
theorem clockCycles_us_of_pulse (P : Params) {k : Nat} {s : State} (h : k < s.us.pcnt.toNat) :
    (clockCycles P k s).us = { s.us with pcnt := BitVec.ofNat 32 (s.us.pcnt.toNat - k) } := by
  induction k with
  | zero => simp
  | succ k ih =>
    have hus := ih (by omega)
    have hsub : BitVec.ofNat 32 (s.us.pcnt.toNat - k) - 1 = BitVec.ofNat 32 (s.us.pcnt.toNat - (k + 1)) := by
      have := s.us.pcnt.isLt; bv_omega
    have hone : 1 < (clockCycles P k s).us.pcnt.toNat := by
      have := s.us.pcnt.isLt; rw [hus]; bv_omega
    rw [clockCycles_succ', clockCycle_us_of_one_lt P hone, hus, hsub]

/-- The pulse when one of its cycles is left. -/
theorem clockCycles_us_of_pulse_last (P : Params) {n : Nat} {s : State} (h : s.us.pcnt.toNat = n + 1) :
    (clockCycles P n s).us = { s.us with pcnt := 1 } := by
  rw [clockCycles_us_of_pulse P (by omega), h, Nat.add_sub_cancel_left]; rfl

/-- The pulse's last cycle ends it (R231). -/
theorem clockCycle_pulse_of_one (P : Params) {s : State} (h : s.us.pcnt = 1) :
    (clockCycle P s).us.trig = false ∧ (clockCycle P s).us.pcnt = 0 := by
  obtain ⟨htrig, hp⟩ := dispatchPhase_pulse P (atDispatch P s)
  have hus : (atDispatch P s).us.trig = false ∧ (atDispatch P s).us.pcnt = 0 := by
    simp [atDispatch, pulsePhase_of_one P (s := tickPhase s) h]
  rw [clockCycle_us, htrig, hp]
  exact hus

/-- With the pulse over no cycle begins another. -/
theorem clockCycles_pulse_of_zero (P : Params) (k : Nat) {s : State} (htrig : s.us.trig = false) (hp : s.us.pcnt = 0) :
    (clockCycles P k s).us.trig = false ∧ (clockCycles P k s).us.pcnt = 0 := by
  induction k generalizing s with
  | zero => exact ⟨htrig, hp⟩
  | succ k ih =>
    have hus : (atDispatch P s).us = s.us := by simp [atDispatch, pulsePhase_of_zero P (s := tickPhase s) hp]
    obtain ⟨ht', hp'⟩ := dispatchPhase_pulse P (atDispatch P s)
    rw [hus] at ht' hp'
    exact ih (ht'.trans htrig) (hp'.trans hp)

/-- A run of `m + k` cycles is a run of `m` and one of `k`. -/
theorem clockCycles_add (P : Params) (m k : Nat) (s : State) :
    clockCycles P (m + k) s = clockCycles P k (clockCycles P m s) := by
  induction m generalizing s with
  | zero => rw [Nat.zero_add, clockCycles_zero]
  | succ m ih => rw [Nat.succ_add, clockCycles_succ, clockCycles_succ, ih]

/-- A pulse of `n` cycles: TRIG is 1 and the session ON at the start of each, and TRIG is 0 from then on (R230). -/
theorem clockCycles_pulse (P : Params) {n : Nat} {s : State} (hn : s.us.pcnt.toNat = n + 1) (hon : s.us.on = true)
    (htrig : s.us.trig = true) (k : Nat) :
    let u := clockCycles P k s
    (k < n + 1 → u.us.trig = true ∧ u.us.on = true ∧ u.us.pcnt.toNat = n + 1 - k) ∧
    (n + 1 ≤ k → u.us.trig = false ∧ u.us.pcnt = 0) := by
  refine ⟨fun hk => ?_, fun hk => ?_⟩
  · have hlt := s.us.pcnt.isLt
    rw [clockCycles_us_of_pulse P (by omega), hn]
    exact ⟨htrig, hon, Nat.mod_eq_of_lt (by omega)⟩
  · obtain ⟨j, rfl⟩ := Nat.exists_eq_add_of_le hk
    have hlast : (clockCycles P n s).us.pcnt = 1 := by rw [clockCycles_us_of_pulse_last P hn]
    obtain ⟨ht, hp⟩ := clockCycle_pulse_of_one P hlast
    rw [clockCycles_add, clockCycles_succ']
    exact clockCycles_pulse_of_zero P j ht hp

theorem trigCycles_toNat (P : Params) : (BitVec.ofNat 32 P.trigCycles).toNat = P.trigCyclesPred.val + 1 :=
  Nat.mod_eq_of_lt (Nat.succ_lt_succ P.trigCyclesPred.isLt)

/-- Settles O42: PCNT counts from TRIG_CYCLES down to 1, the next cycle ends the pulse, and none begins another. -/
theorem triggerPulseLastsTrigCycles : Obligations.TriggerPulseLastsTrigCycles := by
  intro s hagenda hoff
  refine ⟨_, exec_utrig s, fun k => ⟨_, run_of_agenda_nil (by simpa using hagenda) k, ?_⟩⟩
  rw [utrigSeq_of_off _ hoff]
  exact clockCycles_pulse Config.params (trigCycles_toNat _) rfl rfl k

/-! ### The end of the pulse -/

/-- The echo line and the two actions as UINIT leaves them, with GIE = 1 and no other source to run an echo action
(43_ultrasonic.md R221, R222). -/
structure Armed (P : Params) (s : State) : Prop where
  gie      : s.gie = true
  ovfSlot  : s.slot.get .t2Ovf = .echoOvf
  echoSlot : s.slot.get (echoSrc P) = .echoEdge
  echoEn   : s.en.get (echoSrc P) = true
  others   : NoOtherEchoAction P s
  sense    : (s.line.get P.echoLine).sense = .anyEdge

/-- No cycle disarms the line: none writes what `Armed` says. -/
theorem Armed.clockCycle {P : Params} {s : State} (h : Armed P s) : Armed P (clockCycle P s) where
  gie      := by rw [clockCycle_gie, h.gie]
  ovfSlot  := by rw [clockCycle_slot, h.ovfSlot]
  echoSlot := by rw [clockCycle_slot, h.echoSlot]
  echoEn   := by rw [clockCycle_en_get P s (echoSrc_ne_t2Ovf P), h.echoEn]
  others   := fun x hovf hecho hx => by
    rw [clockCycle_en_get P s hovf] at hx
    rw [clockCycle_slot]
    exact h.others x hovf hecho hx
  sense    := by rw [clockCycle_line_get, h.sense]

theorem Armed.clockCycles {P : Params} {s : State} (h : Armed P s) (k : Nat) : Armed P (clockCycles P k s) := by
  induction k generalizing s with
  | zero => exact h
  | succ k ih => exact ih h.clockCycle

/-- When DISPATCH begins in the cycle of the pulse's end, the session is measuring (R231). -/
theorem Armed.measuring_atDispatch {P : Params} {s : State} (h : Armed P s) (hon : s.us.on = true) (hp : s.us.pcnt = 1)
    (hpin : echoPinAt P s 0 = (s.line.get P.echoLine).prev) :
    Measuring P (atDispatch P s) ∧ rangingCycles P (atDispatch P s) = 0 ∧ (atDispatch P s).us.exp = .rising := by
  have hpulse := pulsePhase_of_one P (s := tickPhase s) hp
  have hother : NoOtherEchoAction P (atDispatch P s) := fun x hovf hecho => by
    simpa [atDispatch, hpulse, Ne.symm hovf] using h.others x hovf hecho
  have hovfFlag : (atDispatch P s).flag.get .t2Ovf = false := by
    simp [atDispatch, hpulse, samplePhase_flag_t2Ovf, (echoSrc_ne_t2Ovf P)]
  have hechoFlag : (atDispatch P s).flag.get (echoSrc P) = false := by
    rw [atDispatch, hpulse, echoSrc, samplePhase_flag_line]
    simp [lineEvent, h.sense, ← hpin, echoPinAt]
  refine ⟨?_, by simp [atDispatch, hpulse, rangingCycles], by simp [atDispatch, hpulse]⟩
  exact {
    gie      := by simp [atDispatch, hpulse, h.gie]
    on       := by simp [atDispatch, hpulse, hon]
    pulse    := by simp [atDispatch, hpulse]
    ovfSlot  := by simp [atDispatch, hpulse, h.ovfSlot]
    echoSlot := by simp [atDispatch, hpulse, h.echoSlot]
    ovfEn    := by simp [atDispatch, hpulse]
    echoEn   := by simp [atDispatch, hpulse, h.echoEn, (echoSrc_ne_t2Ovf P).symm]
    others   := hother
    ovfFlag  := hovfFlag
    echoFlag := hechoFlag
    sense    := by simp [atDispatch, hpulse, samplePhase_line_get, h.sense]
    mode     := by simp [atDispatch, hpulse]
    cs       := by simp [atDispatch, hpulse]
    psc      := by simpa [atDispatch, hpulse] using (divisor_bounds P.rangingCs).1 }

/-- The cycle of the pulse's end, without an edge, begins the measurement. -/
theorem Armed.clockCycle_pulseEnd {P : Params} {s : State} (h : Armed P s) (hon : s.us.on = true) (hp : s.us.pcnt = 1)
    (hpin : echoPinAt P s 0 = (s.line.get P.echoLine).prev) :
    Measuring P (Machine.clockCycle P s) ∧ rangingCycles P (Machine.clockCycle P s) = 0 ∧
    (Machine.clockCycle P s).us.exp = .rising := by
  obtain ⟨hm, hcount, hexp⟩ := h.measuring_atDispatch hon hp hpin
  have hsame := clockCycle_sameSession hm.gie hm.others
  rw [dispatchSource_of_flag_false P hm.ovfFlag, dispatchSource_of_flag_false P hm.echoFlag] at hsame
  exact ⟨hsame.measuring hm, by rw [hsame.rangingCycles_eq, hcount], by rw [hsame.us, hexp]⟩

/-- A pulse on an armed line that stands still ends in the measurement. -/
theorem Armed.clockCycles_pulse {P : Params} {n : Nat} {s : State} (h : Armed P s) (hn : s.us.pcnt.toNat = n + 1)
    (hon : s.us.on = true) (hpin : ∀ j, j < n + 1 → echoPinAt P s j = (s.line.get P.echoLine).prev) :
    let u := Machine.clockCycles P (n + 1) s
    Measuring P u ∧ rangingCycles P u = 0 ∧ u.us.exp = .rising := by
  have hlast := clockCycles_us_of_pulse_last P hn
  have hquiet (j : Nat) (hj : j < n) := hpin j (by omega)
  rw [clockCycles_succ']
  refine (h.clockCycles n).clockCycle_pulseEnd (by rw [hlast, hon]) (by rw [hlast]) ?_
  rw [echoPinAt_clockCycles, clockCycles_prev hquiet]
  exact hpin n (by omega)

/-- The state that UINIT, GIESET and UTRIG leave (43_ultrasonic.md R222, R223; 41_events.md R186). -/
def sessionStart (P : Params) (s : State) : State :=
  { s with
    us   := { s.us with on := true, pcnt := BitVec.ofNat 32 P.trigCycles, trig := true, exp := .rising, ovf := 0 }
    line := s.line.set P.echoLine ⟨.anyEdge, (nextPins s.env).get P.echoLine⟩
    flag := s.flag.set (echoSrc P) false
    slot := (s.slot.set (echoSrc P) .echoEdge).set .t2Ovf .echoOvf
    en   := (s.en.set (echoSrc P) true).set .t2Ovf false
    t2   := { s.t2 with cs := .stop }
    gie  := true
    resp := okResp }

theorem exec_uinit_gieset_utrig (s : State) :
    ∃ a b, exec .uinit s = .next a ∧ exec .gieset a = .next b ∧ exec .utrig b = .next (sessionStart Config.params s) := by
  refine ⟨_, _, exec_uinit s, exec_gieset _, ?_⟩
  rw [exec_utrig, uinitSeq_eq, utrigSeq_of_off _ rfl]; rfl

theorem sessionStart_armed {P : Params} {s : State} (hs : NoOtherEchoAction P s) : Armed P (sessionStart P s) where
  gie      := rfl
  ovfSlot  := by simp [sessionStart]
  echoSlot := by simp [sessionStart, (echoSrc_ne_t2Ovf P).symm]
  echoEn   := by simp [sessionStart, (echoSrc_ne_t2Ovf P).symm]
  others   := fun x hovf hecho => by simpa [sessionStart, hovf.symm, hecho.symm] using hs x hovf hecho
  sense    := by simp [sessionStart]

/-- UINIT loads PREV of the echo line from its pin (R222). -/
theorem sessionStart_prev (P : Params) (s : State) :
    ((sessionStart P s).line.get P.echoLine).prev = echoPinAt P s 0 := by
  simp [sessionStart, echoPinAt]

/-- Settles O60: the PULSE phase's three cases, the cycle of the pulse's end, and the pulse that UINIT, GIESET and UTRIG start. -/
theorem pulseEndStartsTheMeasurement : Obligations.PulseEndStartsTheMeasurement := by
  refine ⟨fun P s => ⟨pulsePhase_of_zero P, pulsePhase_of_one_lt P, pulsePhase_of_one P⟩,
    fun P s hgie hon hp hovf hecho hen hs hsense hpin =>
      Armed.clockCycle_pulseEnd ⟨hgie, hovf, hecho, hen, hs, hsense⟩ hon hp hpin,
    fun s hagenda hs hpin => ?_⟩
  obtain ⟨a, b, ha, hb, hc⟩ := exec_uinit_gieset_utrig s
  refine ⟨a, b, _, _, ha, hb, hc, run_of_agenda_nil (s := sessionStart Config.params s) hagenda _, ?_⟩
  refine (sessionStart_armed hs).clockCycles_pulse (trigCycles_toNat _) rfl fun j hj => ?_
  rw [sessionStart_prev]
  exact hpin j hj

end Sys2Proof.Machine
end

section
/-! SUPPORT. How a session begins and ends (43_ultrasonic.md R220, R221; O45): UTRIG and UINIT among the commands, and among the
actions the ECHO_EDGE that leaves a result and the ECHO_OVF that times out. -/

namespace Sys2Proof.Machine

/-- The action `a` has ended a session and left `u`: a result after ECHO_EDGE, a timeout after ECHO_OVF (R236, R239). -/
def EndedBy (a : Action) (u : Ultrasonic) : Prop :=
  u.on = false ∧ ((a = .echoEdge ∧ u.resTo = false) ∨ (a = .echoOvf ∧ u.resTo = true ∧ u.resTicks = 0))

/-- What an action can do to ON: nothing, or end a session in its measuring phase. -/
theorem runAction_on_cases (P : Params) (a : Action) (x : Src) (s : State) :
    (runAction P a x s).us.on = s.us.on ∨ (sessionGate s.us = true ∧ EndedBy a (runAction P a x s).us) := by
  rcases runAction_cases P a x s with e | e | ⟨ha, e⟩ | ⟨ha, e⟩ | ⟨m1, m2, -, e⟩ <;> rw [e]
  · exact .inl rfl
  · exact .inl rfl
  · rcases echoEdge_cases s with ⟨-, e'⟩ | ⟨-, -, e'⟩ | ⟨hg, -, e'⟩ <;> rw [e']
    · exact .inl rfl
    · exact .inl rfl
    · exact .inr ⟨hg, rfl, .inl ⟨ha, rfl⟩⟩
  · rcases echoOvf_cases P s with ⟨-, e'⟩ | ⟨hg, -, e'⟩ | ⟨-, -, e'⟩ <;> rw [e']
    · exact .inl rfl
    · exact .inr ⟨hg, rfl, .inr ⟨ha, rfl, rfl⟩⟩
    · exact .inl rfl
  · exact .inl rfl

/-- `u` is reached from `d` by visits of sources: none has become ready, and ON is as in `d` or a source that was ready in `d` has
ended the session. -/
structure VisitedFrom (d u : State) : Prop where
  slot  : u.slot = d.slot
  ready : ∀ x, d.ready x = false → u.ready x = false
  pcnt  : u.us.pcnt = d.us.pcnt
  on    : u.us.on = d.us.on ∨ (sessionGate d.us = true ∧ ∃ x, d.ready x = true ∧ EndedBy (d.slot.get x) u.us)

theorem VisitedFrom.dispatchSource {d u : State} (h : VisitedFrom d u) (P : Params) (x : Src) :
    VisitedFrom d (dispatchSource P u x) where
  slot  := (dispatchSource_frame P u x).slot.trans h.slot
  ready := fun y hy => dispatchSource_ready_false P x y (.inr (h.ready y hy))
  pcnt  := by
    rcases dispatchSource_cases P u x with ⟨-, e⟩ | ⟨-, e⟩ <;> rw [e]
    · exact h.pcnt
    · exact (runAction_pulse P _ x _).2.trans h.pcnt
  on    := by
    rcases dispatchSource_cases P u x with ⟨-, e⟩ | ⟨hr, e⟩ <;> rw [e]
    · exact h.on
    · have hrd : d.ready x = true := by
        by_contra hd
        exact absurd hr (by simp [h.ready x (Bool.eq_false_iff.2 hd)])
      rcases h.on with hon | ⟨hg, y, hy, hend⟩
      · rcases runAction_on_cases P (u.slot.get x) x (u.setFlag x false) with hon' | ⟨hg, hend⟩
        · exact .inl (hon'.trans hon)
        · rw [h.slot] at hend ⊢
          rw [State.setFlag_us, sessionGate_iff, hon, h.pcnt, ← sessionGate_iff] at hg
          exact .inr ⟨hg, x, hrd, hend⟩
      · have hclosed : sessionGate (u.setFlag x false).us = false := by simp [sessionGate, hend.1]
        rw [runAction_us_of_gate_closed P _ x hclosed]
        exact .inr ⟨hg, y, hy, hend⟩

theorem dispatchPhase_visitedFrom (P : Params) (d : State) : VisitedFrom d (dispatchPhase P d) :=
  dispatchPhase_induct P (VisitedFrom d) ⟨rfl, fun _ h => h, rfl, .inl rfl⟩ fun _ x h => h.dispatchSource P x

/-! ### The cycle -/

/-- ON when DISPATCH begins is ON before the cycle, and a pulse over by then had at most one cycle left (R230). -/
theorem atDispatch_on_pcnt (P : Params) (s : State) :
    (atDispatch P s).us.on = s.us.on ∧ ((atDispatch P s).us.pcnt = 0 → s.us.pcnt.toNat ≤ 1) := by
  rcases pulsePhase_cases P (tickPhase s) with ⟨hp, e⟩ | ⟨-, hp, e⟩ | ⟨-, hp, e⟩ <;>
    simp only [tickPhase_us] at hp <;> simp only [atDispatch, e, samplePhase_keeps, pulseEnd_eq, tickPhase_us, true_and]
  · intro _; simp [hp]
  · intro h; exact absurd h hp
  · intro _; bv_omega

/-- A source that is ready when DISPATCH begins was enabled before the cycle: the pulse's end, which enables RT_OVF, clears its flag
(R231). -/
theorem en_of_atDispatch_ready {P : Params} {s : State} {x : Src} (h : (atDispatch P s).ready x = true) :
    s.en.get x = true := by
  obtain ⟨hflag, hen⟩ : (atDispatch P s).flag.get x = true ∧ (atDispatch P s).en.get x = true := by
    simpa [State.ready] using h
  rcases pulsePhase_cases P (tickPhase s) with ⟨-, e⟩ | ⟨-, -, e⟩ | ⟨-, -, e⟩
  · simpa [atDispatch, e] using hen
  · simpa [atDispatch, e] using hen
  · have hx : x ≠ .t2Ovf := by
      rintro rfl
      simp [atDispatch, e, pulseEnd_eq, samplePhase_flag_t2Ovf] at hflag
    simpa [atDispatch, e, pulseEnd_eq, hx.symm] using hen

theorem atDispatch_slot (P : Params) (s : State) : (atDispatch P s).slot = s.slot := by
  simp [atDispatch, (pulsePhase_rtFrame P (tickPhase s)).slot]

theorem atDispatch_gie (P : Params) (s : State) : (atDispatch P s).gie = s.gie := by
  simp [atDispatch, (pulsePhase_rtFrame P (tickPhase s)).gie]

/-- What a cycle can do to ON: nothing, or end a session by a source that was enabled before it and pending when DISPATCH begins. -/
theorem clockCycle_on_cases (P : Params) (s : State) :
    (clockCycle P s).us.on = s.us.on ∨
    (s.gie = true ∧ s.us.pcnt.toNat ≤ 1 ∧ ∃ x, s.en.get x = true ∧ (atDispatch P s).flag.get x = true ∧
      EndedBy (s.slot.get x) (clockCycle P s).us) := by
  obtain ⟨hon, hpcnt⟩ := atDispatch_on_pcnt P s
  rw [clockCycle_us]
  cases hgie : s.gie with
  | false =>
    have hphase := dispatchPhase_of_gie_false P ((atDispatch_gie P s).trans hgie)
    exact .inl (by rw [hphase, hon])
  | true =>
    rcases (dispatchPhase_visitedFrom P (atDispatch P s)).on with h | ⟨hg, x, hx, hend⟩
    · exact .inl (h.trans hon)
    · have hflag : (atDispatch P s).flag.get x = true := (Bool.and_eq_true_iff.1 hx).1
      rw [atDispatch_slot] at hend
      exact .inr ⟨rfl, hpcnt ((sessionGate_iff _).1 hg).2, x, en_of_atDispatch_ready hx, hflag, hend⟩

/-- No phase before DISPATCH reads the agenda. -/
theorem atDispatch_dropTurn (P : Params) (s : State) : atDispatch P (dropTurn s) = dropTurn (atDispatch P s) := by
  have htick : tickPhase (dropTurn s) = dropTurn (tickPhase s) := rfl
  have hpulse : pulsePhase P (dropTurn (tickPhase s)) = dropTurn (pulsePhase P (tickPhase s)) := by
    generalize tickPhase s = t
    rcases pulsePhase_cases P t with ⟨hp, e⟩ | ⟨hp, hp', e⟩ | ⟨hp, hp', e⟩ <;> rw [e]
    · exact pulsePhase_of_zero P (s := dropTurn t) hp
    · exact (if_neg hp).trans (if_neg hp')
    · exact (if_neg hp).trans (if_pos hp')
  rw [atDispatch, atDispatch, htick, hpulse]
  generalize pulsePhase P (tickPhase s) = u
  rfl

/-! ### The commands -/

/-- What a HOST turn can do to ON: nothing, begin a session as UTRIG, or end one as UINIT (R222, R223). -/
theorem hostCommand_on_cases {w : Word} {s t : State} (ht : hostCommand w s = .next t) :
    t.us.on = s.us.on ∨ (t.us.on = true ∧ decode w = .ok .utrig) ∨ (t.us.on = false ∧ decode w = .ok .uinit) := by
  rcases hostCommand_cases w s with ⟨i, hi, e⟩ | ⟨_, -, e⟩ <;> rw [e] at ht
  · rcases exec_cases i s t ht with ⟨_, rfl⟩ | ⟨u, d, hu, rfl⟩
    · exact .inl rfl
    · by_cases hui : i = .uinit
      · subst hui; cases hu
        exact .inr (.inr ⟨by rw [uinitSeq_eq]; rfl, hi⟩)
      · by_cases hut : i = .utrig
        · subst hut; cases hu
          rcases utrigSeq_cases Config.params s with ⟨-, e'⟩ | ⟨-, e'⟩ <;> rw [e']
          · exact .inl rfl
          · exact .inr (.inl ⟨rfl, hi⟩)
        · exact .inl (congrArg Ultrasonic.on (hu.us_eq hui hut))
  · cases rejected_eq_next ht
    exact .inl rfl

/-- Settles O45: a HOST turn changes ON as UTRIG or UINIT, a cycle only by an action that ends the session. -/
theorem sessionTransitions : Obligations.SessionTransitions := by
  intro s t ht
  rcases step_cases s with ⟨w, rest, hagenda, hstep⟩ | ⟨hturn, hstep⟩ <;> rw [hstep] at ht
  case inl =>
    have hturn : nextTurn s = .host w := by simp [nextTurn, hagenda]
    rcases hostCommand_on_cases ht with h | ⟨hon, hw⟩ | ⟨hon, hw⟩
    · refine ⟨fun h0 h1 => ?_, fun h1 h0 => ?_⟩ <;> simp [h0, h1] at h
    · exact ⟨fun _ _ => ⟨w, hturn, hw⟩, fun _ h0 => by simp [hon] at h0⟩
    · exact ⟨fun _ h1 => by simp [hon] at h1, fun _ _ => .inl ⟨w, hturn, hw⟩⟩
  case inr =>
    cases ht
    rcases clockCycle_on_cases Config.params (dropTurn s) with h | ⟨hgie, hp, x, hen, hflag, hon, hend⟩
    · have h : _ = s.us.on := h
      refine ⟨fun h0 h1 => ?_, fun h1 h0 => ?_⟩ <;> simp [h0, h1] at h
    · rw [atDispatch_dropTurn] at hflag
      exact ⟨fun _ h1 => by simp [hon] at h1, fun _ _ => .inr ⟨hturn, hgie, hp, x, hen, hflag, hend⟩⟩

end Sys2Proof.Machine
end

section
/-! SUPPORT. The commands of the motor controller (44_motor_pwm.md R262, R267 to R270): what each answers, written out (O46 to O49),
MSPEED as MDIR at the new speeds (O50), and the commands repeated (O51). -/

namespace Sys2Proof.Machine

open Statements

theorem exec_mdir (d : BitVec 2) (s : State) :
    exec (.mdir d) s = .next ((mdirSeq Config.params (directionOf d) s).respond 0) := rfl

theorem exec_mstop (s : State) : exec .mstop s = .next ((mstopSeq s).respond 0) := rfl

theorem exec_mspeed_of_legal {p1 p2 : BitVec 7} (h1 : p1.toNat ≤ 100) (h2 : p2.toNat ≤ 100) (s : State) :
    exec (.mspeed p1 p2) s = .next ((mspeedSeq Config.params p1 p2 s).respond 0) := by
  change execMspeed p1 p2 s = _
  rw [execMspeed, isPercentage, isPercentage, decide_eq_true h1, decide_eq_true h2]; rfl

/-- Settles O46: the codes select what they are the codes of, and each pattern is APPLY by definition. -/
theorem hbsetWritesTheChannels : Obligations.HbsetWritesTheChannels := by
  refine ⟨⟨rfl, rfl, rfl, rfl, rfl⟩, fun s m1 m2 => ?_, fun h => ⟨rfl, rfl, rfl, rfl, rfl⟩⟩
  change execHbset _ _ s = _
  rw [execHbset, hbCodeOf_code, withOperand_some, hbCodeOf_code]; rfl

theorem speedModeOf_bit (m : SpeedMode) : speedModeOf (BitVec.ofBool (speedModeBit m)) = m := by cases m <;> rfl

/-- Settles O47: in each old mode MSTOP_SEQ is written out by its law, and MINIT runs it before it writes MC. -/
theorem mstopAndMinitStopTheMotors : Obligations.MstopAndMinitStopTheMotors := by
  refine ⟨rfl, rfl, fun s m => ⟨?_, ?_⟩⟩
  · rw [exec_mstop]
    cases h : s.mc.smode
    · rw [mstopSeq_same h]; rfl
    · rw [mstopSeq_different h]; rfl
  · change accepted 0 (minitSeq (speedModeOf _) s) = _
    rw [speedModeOf_bit, minitSeq]
    cases h : s.mc.smode
    · rw [mstopSeq_same h]; rfl
    · rw [mstopSeq_different h]; rfl

/-! ### MDIR -/

theorem toNat_pos_of_ne_zero {p : BitVec 7} (h : p ≠ 0) : 0 < p.toNat :=
  Nat.pos_of_ne_zero fun h0 => h (BitVec.eq_of_toNat_eq h0)

theorem pwmStartSame_of_zero (P : Params) {s : State} (h : s.mc.p1 = 0) : pwmStartSame P s = s := by
  simp [pwmStartSame, h]

theorem pwmStartSame_of_ne_zero (P : Params) {s : State} (h : s.mc.p1 ≠ 0) :
    pwmStartSame P s =
      { startPwmT0 P s.mc.p1 (.hb .fastStop .fastStop) (.hb (drive1 s.mc.dir) (drive2 s.mc.dir)) s with
        hb1 := applyCode (drive1 s.mc.dir) s.hb1, hb2 := applyCode (drive2 s.mc.dir) s.hb2 } :=
  if_pos (toNat_pos_of_ne_zero h)

theorem pwmStartMotor1_of_zero (P : Params) {s : State} (h : s.mc.p1 = 0) : pwmStartMotor1 P s = s := by
  simp [pwmStartMotor1, h]

theorem pwmStartMotor1_of_ne_zero (P : Params) {s : State} (h : s.mc.p1 ≠ 0) :
    pwmStartMotor1 P s =
      { startPwmT1 P s.mc.p1 (.hb .fastStop .keep) (.hb (drive1 s.mc.dir) .keep) s with
        hb1 := applyCode (drive1 s.mc.dir) s.hb1 } :=
  if_pos (toNat_pos_of_ne_zero h)

theorem pwmStartMotor2_of_zero (P : Params) {s : State} (h : s.mc.p2 = 0) : pwmStartMotor2 P s = s := by
  simp [pwmStartMotor2, h]

theorem pwmStartMotor2_of_ne_zero (P : Params) {s : State} (h : s.mc.p2 ≠ 0) :
    pwmStartMotor2 P s =
      { startPwmT0 P s.mc.p2 (.hb .keep .fastStop) (.hb .keep (drive2 s.mc.dir)) s with
        hb2 := applyCode (drive2 s.mc.dir) s.hb2 } :=
  if_pos (toNat_pos_of_ne_zero h)

/-- A drive pattern sets all three latches, so it does not depend on what the channel showed (R260, R263). -/
theorem applyCode_drive (d : Direction) (h : HBridge) :
    applyCode (drive1 d) h = drivePattern (drive1 d) ∧ applyCode (drive2 d) h = drivePattern (drive2 d) := by
  cases d <;> exact ⟨rfl, rfl⟩

/-- Settles O48: the stop leaves both channels in FASTSTOP, and above 0 % the PWM start follows. -/
theorem mdirDrivesInSameSpeed : Obligations.MdirDrivesInSameSpeed := by
  refine ⟨⟨rfl, rfl, rfl, rfl⟩, ⟨rfl, rfl, rfl, rfl⟩, fun s d hmode => ⟨fun hp => ?_, fun hp => ?_⟩⟩
  all_goals
    rw [exec_mdir, directionOf_code, mdirSeq, mstopSeq_same hmode]
    simp only [pwmStart, hmode]
  · simp only [pwmStartSame_of_zero, hp]; rfl
  · simp only [pwmStartSame_of_ne_zero, hp, ne_eq, not_false_eq_true]; rfl

/-- Settles O49: each motor's part of the PWM start acts on the stopped state, motor 2's on what motor 1's leaves. -/
theorem mdirDrivesInDifferentSpeeds : Obligations.MdirDrivesInDifferentSpeeds := by
  intro s d hmode
  rw [exec_mdir, directionOf_code, mdirSeq, mstopSeq_different hmode]
  simp only [pwmStart, hmode]
  by_cases h1 : s.mc.p1 = 0 <;> by_cases h2 : s.mc.p2 = 0
  all_goals
    simp only [pwmStartMotor1_of_zero, pwmStartMotor1_of_ne_zero, pwmStartMotor2_of_zero, pwmStartMotor2_of_ne_zero,
      startPwmT0_eq, startPwmT1_eq, h1, h2, ne_eq, not_false_eq_true, not_true_eq_false, reduceIte, decide_true, decide_false,
      Bool.true_and, Bool.false_and]
    rfl

/-! ### MSPEED, and commands repeated -/

/-- Settles O50: the two cases of `mspeedSeq_cases`. -/
theorem mspeedStoresOrRestarts : Obligations.MspeedStoresOrRestarts := by
  intro s p1 p2 h1 h2
  rw [exec_mspeed_of_legal h1 h2]
  rcases mspeedSeq_cases Config.params p1 p2 s with ⟨ha, e⟩ | ⟨ha, e⟩ <;> rw [e, ha]
  · exact ⟨fun _ => rfl, nofun⟩
  · exact ⟨nofun, fun _ => ⟨_, rfl, by rw [exec_mdir, directionOf_code]⟩⟩

/-- Every code of DIR is a direction's (30_encoding.md R115). -/
theorem directionCode_directionOf : ∀ d : BitVec 2, directionCode (directionOf d) = d := by decide

/-- MDIR writes from the mode, the speeds and its direction alone, and keeps the mode and the speeds (44_motor_pwm.md R274). -/
theorem exec_mdir_twice (d : Direction) (s : State) :
    ∃ t, exec (.mdir (directionCode d)) s = .next t ∧ exec (.mdir (directionCode d)) t = .next t := by
  cases hmode : s.mc.smode with
  | same =>
    obtain ⟨-, -, hmdir⟩ := mdirDrivesInSameSpeed
    by_cases hp : s.mc.p1 = 0
    · refine ⟨_, (hmdir s d hmode).1 hp, (hmdir _ d ?_).1 ?_⟩
      exacts [hmode, hp]
    · refine ⟨_, (hmdir s d hmode).2 hp, (hmdir _ d ?_).2 ?_⟩
      exacts [hmode, hp]
  | different =>
    refine ⟨_, mdirDrivesInDifferentSpeeds s d hmode, (mdirDrivesInDifferentSpeeds _ d ?_).trans ?_⟩
    · exact hmode
    by_cases h1 : s.mc.p1 = 0 <;> by_cases h2 : s.mc.p2 = 0
    all_goals simp only [h1, h2, reduceIte, decide_true, decide_false, Bool.true_and, Bool.false_and]

theorem exec_mstop_twice (s : State) : ∃ t, exec .mstop s = .next t ∧ exec .mstop t = .next t := by
  obtain ⟨-, -, hstop⟩ := mstopAndMinitStopTheMotors
  refine ⟨_, (hstop s .same).1, (hstop _ .same).1.trans ?_⟩
  by_cases hmode : s.mc.smode = .different <;> simp only [hmode, reduceIte]

/-- Settles O51: the code is that of the direction it selects. -/
theorem motorCommandsAreIdempotent : Obligations.MotorCommandsAreIdempotent := by
  refine ⟨fun d s => ?_, exec_mstop_twice⟩
  rw [← directionCode_directionOf d]
  exact exec_mdir_twice (directionOf d) s

end Sys2Proof.Machine
end

section
/-! SUPPORT. An H-bridge channel over a cycle (44_motor_pwm.md R261, R275): only the visits of the sources that drive it write it, and
where no source does, no cycle changes it (O52). -/

namespace Sys2Proof.Machine

open Statements

/-! ### One channel -/

/-- The two H-bridge channels (10_state.md R43). -/
inductive HbChannel
  | one | two

/-- The latches of channel `c`. -/
def State.hb (s : State) : HbChannel → HBridge
  | .one => s.hb1
  | .two => s.hb2

/-- The pattern code that an action applies to channel `c`; KEEP where it is no HB action (44_motor_pwm.md R261). -/
def codeFor : HbChannel → Action → HbCode
  | .one, .hb m1 _ => m1
  | .two, .hb _ m2 => m2
  | _,    _        => .keep

theorem codeFor_of_not_hb (c : HbChannel) {a : Action} (h : ∀ m1 m2, a ≠ .hb m1 m2) : codeFor c a = .keep := by
  cases a with
  | hb m1 m2 => exact absurd rfl (h m1 m2)
  | _ => cases c <;> rfl

theorem runAction_hb (P : Params) (a : Action) (x : Src) (s : State) (c : HbChannel) :
    (runAction P a x s).hb c = applyCode (codeFor c a) (s.hb c) := by
  by_cases ha : ∃ m1 m2, a = .hb m1 m2
  · obtain ⟨m1, m2, rfl⟩ := ha
    cases c <;> rfl
  · have hno (m1 m2 : HbCode) : a ≠ .hb m1 m2 := fun h => ha ⟨m1, m2, h⟩
    obtain ⟨h1, h2⟩ := runAction_of_not_hb P x s hno
    rw [codeFor_of_not_hb c hno]
    cases c
    · exact h1
    · exact h2

/-- Channel `c`, showing `h`, after the visit of source `x` in the state `s`. -/
def visitChannel (c : HbChannel) (s : State) (h : HBridge) (x : Src) : HBridge :=
  if s.ready x then applyCode (codeFor c (s.slot.get x)) h else h

theorem dispatchSource_hb (P : Params) (s : State) (x : Src) (c : HbChannel) :
    (dispatchSource P s x).hb c = visitChannel c s (s.hb c) x := by
  rcases dispatchSource_cases P s x with ⟨hr, e⟩ | ⟨hr, e⟩ <;> rw [e, visitChannel, hr]
  · rfl
  · rw [runAction_hb]; cases c <;> rfl

/-! ### The sources that drive a channel -/

/-- Beside the sources `own`, no source that is enabled, nor RT_OVF (which the end of a pulse enables), writes channel `c`. -/
def DrivenOnlyBy (own : List Src) (c : HbChannel) (s : State) : Prop :=
  ∀ x, x ∉ own → (s.en.get x = true ∨ x = .t2Ovf) → codeFor c (s.slot.get x) = .keep

theorem drivenOnlyBy_of_noOtherHbAction {own : List Src} {s : State} (h : NoOtherHbAction own s) (c : HbChannel) :
    DrivenOnlyBy own c s :=
  fun x hx hen => codeFor_of_not_hb c (h x hx hen)

/-- `DrivenOnlyBy` reads the slots and, but for RT_OVF's, the enables of the sources beside `own`. -/
theorem DrivenOnlyBy.congr {own : List Src} {c : HbChannel} {s u : State} (h : DrivenOnlyBy own c s)
    (hslot : ∀ x, x ∉ own → u.slot.get x = s.slot.get x)
    (hen : ∀ x, x ∉ own → x ≠ .t2Ovf → u.en.get x = true → s.en.get x = true) : DrivenOnlyBy own c u := by
  intro x hx hready
  rw [hslot x hx]
  by_cases hovf : x = .t2Ovf
  · exact h x hx (.inr hovf)
  · exact h x hx (.inl (hen x hx hovf (hready.resolve_right hovf)))

/-- A source that is disabled, or bound to no action on the channel, does not drive it. -/
theorem DrivenOnlyBy.shrink {own own' : List Src} {c : HbChannel} {s : State} (h : DrivenOnlyBy own c s)
    (hovf : .t2Ovf ∉ own)
    (hidle : ∀ x ∈ own, x ∉ own' → s.en.get x = false ∨ codeFor c (s.slot.get x) = .keep) : DrivenOnlyBy own' c s := by
  intro x hx hready
  by_cases hown : x ∈ own
  · have hen : s.en.get x = true := hready.resolve_right (ne_of_mem_of_not_mem hown hovf)
    exact (hidle x hown hx).resolve_left (by simp [hen])
  · exact h x hown hready

/-- No phase before DISPATCH writes an enable but RT_OVF's (10_state.md R33). -/
theorem atDispatch_en_get (P : Params) (s : State) {x : Src} (hx : x ≠ .t2Ovf) :
    (atDispatch P s).en.get x = s.en.get x := by
  simp [atDispatch, (pulsePhase_rtFrame P (tickPhase s)).en x hx]

theorem DrivenOnlyBy.dispatchSource {own : List Src} {c : HbChannel} {s : State} (h : DrivenOnlyBy own c s) (P : Params)
    (x : Src) : DrivenOnlyBy own c (dispatchSource P s x) :=
  h.congr (fun _ _ => by rw [(dispatchSource_frame P s x).slot]) fun _ _ _ => dispatchSource_en_le P x

theorem DrivenOnlyBy.atDispatch {own : List Src} {c : HbChannel} {s : State} (h : DrivenOnlyBy own c s) (P : Params) :
    DrivenOnlyBy own c (atDispatch P s) :=
  h.congr (fun _ _ => by rw [atDispatch_slot]) fun x _ hx hen => by rwa [atDispatch_en_get P s hx] at hen

theorem DrivenOnlyBy.clockCycle {own : List Src} {c : HbChannel} {s : State} (h : DrivenOnlyBy own c s) (P : Params) :
    DrivenOnlyBy own c (clockCycle P s) :=
  h.congr (fun _ _ => by rw [clockCycle_slot]) fun x _ hx hen => by rwa [clockCycle_en_get P s hx] at hen

/-- The visit of a source that does not drive the channel leaves it. -/
theorem DrivenOnlyBy.visitChannel_eq {own : List Src} {c : HbChannel} {s : State} (hs : DrivenOnlyBy own c s) {x : Src}
    (hx : x ∉ own) (h : HBridge) : visitChannel c s h x = h := by
  rw [visitChannel]
  split
  case isTrue hr =>
    obtain ⟨-, hen⟩ : s.flag.get x = true ∧ s.en.get x = true := by simpa [State.ready] using hr
    rw [hs x hx (.inl hen)]; rfl
  case isFalse => rfl

/-- The visit of one source leaves whether another is ready, unless that is RT_OVF, which an echo action may disable. -/
theorem dispatchSource_ready_of_ne (P : Params) (s : State) {x y : Src} (hyx : y ≠ x) (hy : y ≠ .t2Ovf) :
    (dispatchSource P s x).ready y = s.ready y := by
  rcases dispatchSource_cases P s x with ⟨-, e⟩ | ⟨-, e⟩ <;> rw [e]
  have hen := (runAction_rtFrame P (s.slot.get x) x (s.setFlag x false)).en y hy
  simp [State.ready, hen, hyx.symm]

/-- To a channel the visits of a list come to those of the sources that drive it. -/
theorem foldl_dispatchSource_hb (P : Params) {own : List Src} {c : HbChannel} (hown : .t2Ovf ∉ own) {l : List Src} {s : State}
    (hl : l.Nodup) (hs : DrivenOnlyBy own c s) :
    (l.foldl (dispatchSource P) s).hb c = (l.filter (· ∈ own)).foldl (visitChannel c s) (s.hb c) := by
  induction l generalizing s with
  | nil => rfl
  | cons x l ih =>
    obtain ⟨hxl, hl⟩ := List.nodup_cons.mp hl
    have hvisits : ∀ h, ∀ y ∈ l.filter (· ∈ own), visitChannel c (dispatchSource P s x) h y = visitChannel c s h y := by
      intro h y hy
      obtain ⟨hyl, hyown⟩ : y ∈ l ∧ y ∈ own := by simpa using hy
      have hready := dispatchSource_ready_of_ne P s (ne_of_mem_of_not_mem hyl hxl) (ne_of_mem_of_not_mem hyown hown)
      rw [visitChannel, visitChannel, hready, (dispatchSource_frame P s x).slot]
    rw [List.foldl_cons, ih hl (hs.dispatchSource P x), dispatchSource_hb, List.foldl_ext _ _ _ hvisits]
    by_cases hx : x ∈ own
    · rw [List.filter_cons_of_pos (by simpa using hx), List.foldl_cons]
    · rw [List.filter_cons_of_neg (by simpa using hx), hs.visitChannel_eq hx]

/-! ### The cycle -/

/-- No phase before DISPATCH writes a channel (10_state.md R33). -/
theorem atDispatch_hb (P : Params) (s : State) (c : HbChannel) : (atDispatch P s).hb c = s.hb c := by
  rcases pulsePhase_cases P (tickPhase s) with ⟨-, e⟩ | ⟨-, -, e⟩ | ⟨-, -, e⟩ <;> cases c <;>
    simp [atDispatch, e, pulseEnd_eq, State.hb]

/-- A channel after a cycle with GIE = 1: the visits of the sources that drive it, in id order. -/
theorem clockCycle_hb (P : Params) {own : List Src} {c : HbChannel} {s : State} (hgie : s.gie = true) (hown : .t2Ovf ∉ own)
    (hs : DrivenOnlyBy own c s) :
    (clockCycle P s).hb c = (srcsInOrder.filter (· ∈ own)).foldl (visitChannel c (atDispatch P s)) (s.hb c) := by
  have hcycle : (clockCycle P s).hb c = (dispatchPhase P (atDispatch P s)).hb c := by cases c <;> rfl
  rw [hcycle, dispatchPhase, if_pos ((atDispatch_gie P s).trans hgie),
    foldl_dispatchSource_hb P hown (nodup_of_pairwise_srcId srcsInOrder_pairwise) (hs.atDispatch P), atDispatch_hb]

/-- No cycle changes a channel that no source drives (44_motor_pwm.md R275). -/
theorem clockCycle_hb_of_not_driven (P : Params) {c : HbChannel} {s : State} (hs : DrivenOnlyBy [] c s) :
    (clockCycle P s).hb c = s.hb c := by
  by_cases hgie : s.gie = true
  · exact clockCycle_hb P hgie List.not_mem_nil hs
  · have hphase := dispatchPhase_of_gie_false P ((atDispatch_gie P s).trans (Bool.eq_false_iff.2 hgie))
    rw [← atDispatch_hb P s, clockCycle_eq, hphase]
    cases c <;> rfl

theorem clockCycles_hb_of_not_driven (P : Params) {c : HbChannel} {s : State} (hs : DrivenOnlyBy [] c s) (k : Nat) :
    (clockCycles P k s).hb c = s.hb c := by
  induction k generalizing s with
  | zero => rfl
  | succ k ih => rw [clockCycles_succ, ih (hs.clockCycle P), clockCycle_hb_of_not_driven P hs]

/-- Settles O52: MSTOP's writes are O47, and a channel that no source drives stays. -/
theorem stoppedMotorsStayStopped : Obligations.StoppedMotorsStayStopped := by
  intro s
  obtain ⟨-, -, hstop⟩ := mstopAndMinitStopTheMotors
  refine ⟨_, (hstop s .same).1, rfl, rfl, rfl, fun hmode => ?_, fun hnone P k => ?_⟩
  · simp only [hmode, reduceIte, and_self]
  · have undriven (c : HbChannel) := drivenOnlyBy_of_noOtherHbAction (own := []) (fun x _ => hnone x) c
    exact ⟨clockCycles_hb_of_not_driven P (undriven .one) k, clockCycles_hb_of_not_driven P (undriven .two) k⟩

end Sys2Proof.Machine
end

section
/-! SUPPORT. A motor timer as `PWM_START` leaves it (44_motor_pwm.md R265, R272): its prescaler and its count after `k` cycles, the
cycles of its compare and of its restart, and the ticks in which the channel is driven. -/

namespace Sys2Proof.Machine

/-! ### The period of 256 ticks -/

/-- Cycle `k + 1` of a timer with divisor `d` ends a tick (40_timer.md R150). -/
def EndsTick (d : ClockDiv) (k : Nat) : Prop := k % divisor d = divisor d - 1

/-- The tick of the period in which the timer is after `k` cycles. -/
def tickOf (d : ClockDiv) (k : Nat) : Nat := k / divisor d % 256

/-- Cycle `k + 1` ends the last tick of the period. -/
def EndsPeriod (d : ClockDiv) (k : Nat) : Prop := EndsTick d k ∧ tickOf d k = 255

/-- Cycle `k + 1` ends the last driven tick at `p` per cent: the timer leaves the count DUTY(p). -/
def EndsDrive (d : ClockDiv) (p : BitVec 7) (k : Nat) : Prop := EndsTick d k ∧ tickOf d k = (duty p).toNat

/-- The channel is driven after `k` cycles at `p` per cent (R271, R272). -/
abbrev InDrive (d : ClockDiv) (p : BitVec 7) (k : Nat) : Prop := tickOf d k ≤ (duty p).toNat

/-- The quotient and the remainder of the next cycle. -/
theorem succ_div_mod_divisor (d : ClockDiv) (k : Nat) :
    (¬EndsTick d k → (k + 1) / divisor d = k / divisor d ∧ (k + 1) % divisor d = k % divisor d + 1) ∧
    (EndsTick d k → (k + 1) / divisor d = k / divisor d + 1 ∧ (k + 1) % divisor d = 0) := by
  obtain ⟨hpos, -⟩ := divisor_bounds d
  have hlt := Nat.mod_lt k hpos
  have hk := Nat.mod_add_div k (divisor d)
  refine ⟨fun h => ?_, fun h => ?_⟩ <;> rw [EndsTick] at h <;> rw [Nat.div_mod_unique hpos]
  · omega
  · rw [Nat.mul_add]; omega

theorem tickOf_succ_of_not_endsTick {d : ClockDiv} {k : Nat} (h : ¬EndsTick d k) : tickOf d (k + 1) = tickOf d k := by
  rw [tickOf, ((succ_div_mod_divisor d k).1 h).1, tickOf]

/-- After the last of the 256 ticks the first begins. -/
theorem tickOf_succ_of_endsTick {d : ClockDiv} {k : Nat} (h : EndsTick d k) :
    tickOf d (k + 1) = if tickOf d k = 255 then 0 else tickOf d k + 1 := by
  rw [tickOf, ((succ_div_mod_divisor d k).2 h).1, tickOf]
  generalize k / divisor d = q
  split <;> omega

/-- The drive begins at the end of a period, and ends at the end of its last tick unless a new period begins there (100 %). -/
theorem inDrive_succ (d : ClockDiv) (p : BitVec 7) (k : Nat) :
    InDrive d p (k + 1) ↔ EndsPeriod d k ∨ (¬EndsDrive d p k ∧ InDrive d p k) := by
  simp only [InDrive, EndsPeriod, EndsDrive]
  by_cases h : EndsTick d k
  · rw [tickOf_succ_of_endsTick h]
    by_cases h255 : tickOf d k = 255
    · simp [h, h255]
    · simp only [h, h255, true_and, if_false, false_or]; omega
  · simp [h, tickOf_succ_of_not_endsTick h]

theorem inDrive_zero (d : ClockDiv) (p : BitVec 7) : InDrive d p 0 := by simp [InDrive, tickOf]

/-! ### The prescaler and the count -/

/-- The prescaler and the count of a timer with divisor `d` that has run `k` cycles of PWM from 0. -/
structure PwmCount {w : Nat} (d : ClockDiv) (k : Nat) (psc : BitVec 10) (cnt : BitVec w) : Prop where
  psc : psc.toNat = k % divisor d
  cnt : cnt.toNat = tickOf d k

theorem PwmCount.zero (w : Nat) (d : ClockDiv) : PwmCount d 0 0 (0 : BitVec w) :=
  ⟨(Nat.zero_mod _).symm, by simp [tickOf]⟩

theorem PwmCount.eq_iff {w : Nat} {d : ClockDiv} {k : Nat} {psc : BitVec 10} {cnt : BitVec w} (h : PwmCount d k psc cnt)
    (v : BitVec w) : cnt = v ↔ tickOf d k = v.toNat := by rw [← BitVec.toNat_inj, h.cnt]

/-- The prescaler ticks in a tick's last cycle. -/
theorem PwmCount.ticks_iff {w : Nat} {d : ClockDiv} {k : Nat} {psc : BitVec 10} {cnt : BitVec w} (h : PwmCount d k psc cnt) :
    prescalerTicks (.run d) psc = true ↔ EndsTick d k := by
  have hlt := Nat.mod_lt k (divisor_bounds d).1
  rw [prescalerTicks_run_iff, h.psc, EndsTick]
  omega

/-- With TOP = 255 the count wraps at 255, on 8 and on 16 bits. -/
theorem PwmCount.next {w : Nat} {d : ClockDiv} {k : Nat} {psc : BitVec 10} {cnt top : BitVec w} (h : PwmCount d k psc cnt)
    (htop : top.toNat = 255) :
    PwmCount d (k + 1) (prescalerNext (.run d) psc)
      (if prescalerTicks (.run d) psc then countAfterTick cnt top else cnt) := by
  obtain ⟨hpos, hle⟩ := divisor_bounds d
  have hle_iff := (prescalerTicks_run_iff d psc).symm.trans h.ticks_iff
  rw [prescalerNext_run]
  by_cases ht : EndsTick d k
  case pos =>
    have hwrap : cnt = top ∨ tickOf d k = 2 ^ w - 1 ↔ tickOf d k = 255 := by
      have hw := top.isLt
      have htick : tickOf d k < 256 := Nat.mod_lt _ (by decide)
      rw [← BitVec.toNat_inj, h.cnt, htop]
      omega
    rw [if_pos (hle_iff.2 ht), if_pos (h.ticks_iff.2 ht)]
    refine ⟨((succ_div_mod_divisor d k).2 ht).2.symm, ?_⟩
    simp only [countAfterTick_toNat, h.cnt, hwrap, tickOf_succ_of_endsTick ht]
  case neg =>
    have hsucc : (psc + 1).toNat = psc.toNat + 1 := by
      have hlt : psc.toNat + 1 < 2 ^ 10 := by have := h.psc; have := Nat.mod_lt k hpos; rw [EndsTick] at ht; omega
      simpa using Nat.mod_eq_of_lt hlt
    rw [if_neg (mt hle_iff.1 ht), if_neg (mt h.ticks_iff.1 ht)]
    exact ⟨by rw [hsucc, h.psc, ((succ_div_mod_divisor d k).1 ht).2], by rw [h.cnt, tickOf_succ_of_not_endsTick ht]⟩

end Sys2Proof.Machine
end

section
/-! SUPPORT. The motor timers T0 and T1 running PWM (44_motor_pwm.md R265): the cycles in which their two sources become pending, and
the channel they drive, cycle by cycle (R271, R272). -/

namespace Sys2Proof.Machine

open Statements

/-! ### The two timers -/

/-- T0, `k` cycles after it started PWM at `p` per cent. -/
structure PwmT0 (d : ClockDiv) (p : BitVec 7) (k : Nat) (t : Timer8) : Prop where
  mode  : t.mode = .fastPwm
  cs    : t.cs = .run d
  ocra  : t.ocra = duty p
  count : PwmCount d k t.psc t.cnt

/-- T1, `k` cycles after it started PWM at `p` per cent. -/
structure PwmT1 (d : ClockDiv) (p : BitVec 7) (k : Nat) (t : Timer16) : Prop where
  mode  : t.mode = .fastPwmIcr
  cs    : t.cs = .run d
  icr   : t.icr = 255
  ocra  : t.ocra = (duty p).setWidth 16
  count : PwmCount d k t.psc t.cnt

section Timers

variable {d : ClockDiv} {p : BitVec 7} {k : Nat}

theorem PwmT0.top {t : Timer8} (h : PwmT0 d p k t) : top8 t = 255 := by rw [top8, h.mode]

theorem PwmT1.top {t : Timer16} (h : PwmT1 d p k t) : top16 t = 255 := by rw [top16, h.mode]; exact h.icr

theorem PwmT0.clock {t : Timer8} (h : PwmT0 d p k t) : PwmT0 d p (k + 1) (clock8 t) where
  mode  := by rw [clock8_mode, h.mode]
  cs    := by rw [clock8_cs, h.cs]
  ocra  := by rw [clock8_ocra, h.ocra]
  count := by
    rw [clock8_psc, clock8_cnt, h.cs, h.top]
    exact h.count.next (top := 255) rfl

theorem PwmT1.clock {t : Timer16} (h : PwmT1 d p k t) : PwmT1 d p (k + 1) (clock16 t) where
  mode  := by rw [clock16_mode, h.mode]
  cs    := by rw [clock16_cs, h.cs]
  icr   := by rw [clock16_icr, h.icr]
  ocra  := by rw [clock16_ocra, h.ocra]
  count := by
    rw [clock16_psc, clock16_cnt, h.cs, h.top]
    exact h.count.next (top := 255) rfl

/-- T0's compare event ends the drive, its overflow event the period. -/
theorem PwmT0.events {t : Timer8} (h : PwmT0 d p k t) :
    ((clockEvents8 t).cmp = true ↔ EndsDrive d p k) ∧ ((clockEvents8 t).ovf = true ↔ EndsPeriod d k) := by
  obtain ⟨hcmp, hovf⟩ := clockEvents8_fields t
  obtain ⟨hcmpTick, hovfTick⟩ := tickEvents.1 t
  rw [hcmp, hovf, Bool.and_eq_true, Bool.and_eq_true, h.cs, h.count.ticks_iff, hcmpTick, hovfTick, h.ocra, h.top]
  simp only [h.count.eq_iff, h.count.cnt, h.mode, true_and]
  exact ⟨Iff.rfl, and_congr_right' (or_self_iff (a := tickOf d k = 255))⟩

/-- T1's compare event ends the drive, its capture event the period. -/
theorem PwmT1.events {t : Timer16} (h : PwmT1 d p k t) :
    ((clockEvents16 t).cmpA = true ↔ EndsDrive d p k) ∧ ((clockEvents16 t).capt = true ↔ EndsPeriod d k) := by
  obtain ⟨hcmp, -, hcapt, -⟩ := clockEvents16_fields t
  obtain ⟨hcmpTick, -, hcaptTick, -⟩ := tickEvents.2 t
  rw [hcmp, hcapt, Bool.and_eq_true, Bool.and_eq_true, h.cs, h.count.ticks_iff, hcmpTick, hcaptTick, h.ocra, h.icr]
  simp only [h.count.eq_iff, h.mode, true_or, true_and, BitVec.toNat_setWidth_of_le (show 8 ≤ 16 by decide)]
  exact ⟨Iff.rfl, Iff.rfl⟩

end Timers

/-! ### A cycle -/

@[simp] theorem clockCycle_t0 (P : Params) (s : State) : (clockCycle P s).t0 = clock8 s.t0 := by
  rw [clockCycle_eq, (dispatchPhase_frame P _).t0]
  simp [atDispatch, (pulsePhase_rtFrame P (tickPhase s)).t0]

@[simp] theorem clockCycle_t1 (P : Params) (s : State) : (clockCycle P s).t1 = clock16 s.t1 := by
  rw [clockCycle_eq, (dispatchPhase_frame P _).t1]
  simp [atDispatch, (pulsePhase_rtFrame P (tickPhase s)).t1]

/-- The PULSE phase clears no flag but RT_OVF's and ECHO_SRC's (43_ultrasonic.md R231), and SAMPLE writes those of the lines. -/
theorem atDispatch_flag_get (P : Params) (s : State) {x : Src} (hovf : x ≠ .t2Ovf) (hline : ∀ i, x ≠ lineSrc i) :
    (atDispatch P s).flag.get x = (tickPhase s).flag.get x := by
  have hsample (p : Pins) (u : State) : (samplePhase p u).flag.get x = u.flag.get x := by
    rw [samplePhase_eq]
    cases x with
    | int0 => exact absurd rfl (hline .int0)
    | int1 => exact absurd rfl (hline .int1)
    | int2 => exact absurd rfl (hline .int2)
    | _ => rfl
  rw [atDispatch, hsample]
  rcases pulsePhase_cases P (tickPhase s) with ⟨-, e⟩ | ⟨-, -, e⟩ | ⟨-, -, e⟩ <;> rw [e]
  rw [pulseEnd_eq]
  simp [hovf.symm, (hline P.echoLine).symm, echoSrc]

/-- After a cycle with GIE = 1 no enabled source is pending (60_exceptions.md R326). -/
theorem clockCycle_flag_of_en (P : Params) {s : State} {x : Src} (hgie : s.gie = true)
    (hen : (clockCycle P s).en.get x = true) : (clockCycle P s).flag.get x = false := by
  obtain ⟨-, -, hdrains⟩ := oneDispatchPassDrainsEverySource
  have hready : (clockCycle P s).ready x = false := hdrains P (atDispatch P s) x ((atDispatch_gie P s).trans hgie)
  rwa [State.ready, hen, Bool.and_true] at hready

/-! ### The motor timers -/

/-- The timers that drive the motors (44_motor_pwm.md R265). -/
inductive MotorTimer
  | t0 | t1

namespace MotorTimer

/-- The source whose action ends the drive. -/
def cmpSrc : MotorTimer → Src
  | .t0 => .t0Cmp
  | .t1 => .t1CmpA

/-- The source whose action begins the drive again. -/
def restartSrc : MotorTimer → Src
  | .t0 => .t0Ovf
  | .t1 => .t1Capt

/-- The timer runs PWM, `k` cycles after its start at `p` per cent. -/
def RunsPwm (n : MotorTimer) (d : ClockDiv) (p : BitVec 7) (k : Nat) (s : State) : Prop :=
  match n with
  | .t0 => PwmT0 d p k s.t0
  | .t1 => PwmT1 d p k s.t1

/-- The two sources are not RT_OVF, and the DISPATCH phase visits them in this order (60_exceptions.md R322, R325). -/
theorem srcs_spec (n : MotorTimer) :
    n.cmpSrc ≠ .t2Ovf ∧ n.restartSrc ≠ .t2Ovf ∧
    srcsInOrder.filter (· ∈ [n.cmpSrc, n.restartSrc]) = [n.cmpSrc, n.restartSrc] := by
  cases n <;> decide

variable {n : MotorTimer} {d : ClockDiv} {p : BitVec 7} {k : Nat} {s : State}

theorem RunsPwm.clockCycle (h : n.RunsPwm d p k s) (P : Params) : n.RunsPwm d p (k + 1) (clockCycle P s) := by
  cases n
  · rw [RunsPwm, clockCycle_t0]; exact PwmT0.clock h
  · rw [RunsPwm, clockCycle_t1]; exact PwmT1.clock h

/-- In the cycle that ends the drive the first source becomes pending, in the one that ends the period the second does. -/
theorem RunsPwm.atDispatch_flag (h : n.RunsPwm d p k s) (P : Params) (hcmp : s.flag.get n.cmpSrc = false)
    (hrestart : s.flag.get n.restartSrc = false) :
    ((atDispatch P s).flag.get n.cmpSrc = true ↔ EndsDrive d p k) ∧
    ((atDispatch P s).flag.get n.restartSrc = true ↔ EndsPeriod d k) := by
  obtain ⟨hcmpOvf, hrestartOvf, -⟩ := n.srcs_spec
  rw [atDispatch_flag_get P s hcmpOvf (by cases n <;> nofun), atDispatch_flag_get P s hrestartOvf (by cases n <;> nofun)]
  cases n with
  | t0 =>
    obtain ⟨hcmpEvent, hrestartEvent⟩ := PwmT0.events h
    have hcmp : s.flag.t0Cmp = false := hcmp
    have hrestart : s.flag.t0Ovf = false := hrestart
    rw [← hcmpEvent, ← hrestartEvent]
    simp [tickPhase, cmpSrc, restartSrc, PerSrc.get, hcmp, hrestart]
  | t1 =>
    obtain ⟨hcmpEvent, hrestartEvent⟩ := PwmT1.events h
    have hcmp : s.flag.t1CmpA = false := hcmp
    have hrestart : s.flag.t1Capt = false := hrestart
    rw [← hcmpEvent, ← hrestartEvent]
    simp [tickPhase, cmpSrc, restartSrc, PerSrc.get, hcmp, hrestart]

end MotorTimer

/-! ### A driven channel -/

/-- Channel `c` at `p` per cent, `k` cycles after `PWM_START`: timer `n` runs, its two sources are bound, enabled and not pending, no
other source writes the channel, and it shows the pattern of `m`, which sets all three latches, while the drive lasts, else
FASTSTOP. -/
structure Driven (P : Params) (n : MotorTimer) (c : HbChannel) (m : HbCode) (p : BitVec 7) (k : Nat) (s : State) : Prop where
  gie         : s.gie = true
  sets        : ∀ g, applyCode m g = drivePattern m
  timer       : n.RunsPwm P.pwmCs p k s
  cmpEn       : s.en.get n.cmpSrc = true
  restartEn   : s.en.get n.restartSrc = true
  cmpSlot     : codeFor c (s.slot.get n.cmpSrc) = .fastStop
  restartSlot : codeFor c (s.slot.get n.restartSrc) = m
  others      : DrivenOnlyBy [n.cmpSrc, n.restartSrc] c s
  cmpFlag     : s.flag.get n.cmpSrc = false
  restartFlag : s.flag.get n.restartSrc = false
  shows       : s.hb c = if InDrive P.pwmCs p k then drivePattern m else ⟨true, false, false⟩

namespace Driven

variable {P : Params} {n : MotorTimer} {c : HbChannel} {m : HbCode} {p : BitVec 7} {k : Nat} {s : State}

/-- In the cycle that ends the drive DISPATCH visits the first source, in the one that ends the period the second. -/
theorem atDispatch_ready (h : Driven P n c m p k s) :
    ((atDispatch P s).ready n.cmpSrc = true ↔ EndsDrive P.pwmCs p k) ∧
    ((atDispatch P s).ready n.restartSrc = true ↔ EndsPeriod P.pwmCs k) := by
  obtain ⟨hcmpOvf, hrestartOvf, -⟩ := n.srcs_spec
  rw [State.ready, State.ready, atDispatch_en_get P s hcmpOvf, atDispatch_en_get P s hrestartOvf, h.cmpEn,
    h.restartEn, Bool.and_true, Bool.and_true]
  exact h.timer.atDispatch_flag P h.cmpFlag h.restartFlag

/-- A cycle's DISPATCH ends the drive, begins it again, or does both in this order. -/
theorem clockCycle_hb (h : Driven P n c m p k s) :
    (clockCycle P s).hb c = if InDrive P.pwmCs p (k + 1) then drivePattern m else ⟨true, false, false⟩ := by
  obtain ⟨hcmpOvf, hrestartOvf, horder⟩ := n.srcs_spec
  obtain ⟨hcmp, hrestart⟩ := h.atDispatch_ready
  have hown : Src.t2Ovf ∉ [n.cmpSrc, n.restartSrc] := by simp [hcmpOvf.symm, hrestartOvf.symm]
  have hdrive := inDrive_succ P.pwmCs p k
  rw [Machine.clockCycle_hb P h.gie hown h.others, horder]
  change visitChannel c _ (visitChannel c _ _ n.cmpSrc) n.restartSrc = _
  rw [visitChannel, visitChannel, atDispatch_slot, h.cmpSlot, h.restartSlot]
  by_cases hp : EndsPeriod P.pwmCs k
  · rw [if_pos (hrestart.2 hp), h.sets, if_pos (hdrive.2 (.inl hp))]
  · rw [if_neg (mt hrestart.1 hp)]
    by_cases hd : EndsDrive P.pwmCs p k
    · rw [if_pos (hcmp.2 hd), if_neg (by tauto)]; rfl
    · rw [if_neg (mt hcmp.1 hd), h.shows]
      exact if_congr (by tauto) rfl rfl

theorem clockCycle (h : Driven P n c m p k s) :
    Driven P n c m p (k + 1) (clockCycle P s) := by
  obtain ⟨hcmpOvf, hrestartOvf, -⟩ := n.srcs_spec
  have hcmpEn : (Machine.clockCycle P s).en.get n.cmpSrc = true := by rw [clockCycle_en_get P s hcmpOvf, h.cmpEn]
  have hrestartEn : (Machine.clockCycle P s).en.get n.restartSrc = true := by
    rw [clockCycle_en_get P s hrestartOvf, h.restartEn]
  exact {
    gie         := by rw [clockCycle_gie, h.gie]
    sets        := h.sets
    timer       := h.timer.clockCycle P
    cmpEn       := hcmpEn
    restartEn   := hrestartEn
    cmpSlot     := by rw [clockCycle_slot, h.cmpSlot]
    restartSlot := by rw [clockCycle_slot, h.restartSlot]
    others      := h.others.clockCycle P
    cmpFlag     := clockCycle_flag_of_en P h.gie hcmpEn
    restartFlag := clockCycle_flag_of_en P h.gie hrestartEn
    shows       := h.clockCycle_hb }

/-- The waveform (44_motor_pwm.md R271, R272): from the start of PWM the channel follows the period of 256 ticks. -/
theorem clockCycles (h : Driven P n c m p 0 s) (k : Nat) :
    Driven P n c m p k (clockCycles P k s) := by
  induction k with
  | zero => exact h
  | succ k ih => rw [clockCycles_succ']; exact ih.clockCycle

end Driven

end Sys2Proof.Machine
end

section
/-! SUPPORT. The PWM waveforms (44_motor_pwm.md R264, R271, R272): how MDIR leaves each channel in either mode, and what the channel
shows from then on (O53, O54). -/

namespace Sys2Proof.Machine

open Statements

/-- Channel `c` as MDIR at `p` per cent leaves it: at 0 % in FASTSTOP with no source to drive it, else at the start of PWM by timer
`n` with the pattern of `m` (R264, R265). -/
inductive MdirLeaves (P : Params) (n : MotorTimer) (c : HbChannel) (m : HbCode) (p : BitVec 7) (s : State) : Prop
  | stopped (hp : p = 0) (undriven : DrivenOnlyBy [] c s) (shows : s.hb c = ⟨true, false, false⟩)
  | driven (hp : p ≠ 0) (start : Driven P n c m p 0 s)

/-- The waveform of one channel: its pattern in the first DUTY(p) + 1 ticks of every 256, else FASTSTOP, and FASTSTOP throughout at
0 % (R264, R271, R272). -/
theorem MdirLeaves.waveform {P : Params} {n : MotorTimer} {c : HbChannel} {m : HbCode} {p : BitVec 7} {s : State}
    (h : MdirLeaves P n c m p s) (k : Nat) :
    (clockCycles P k s).hb c =
      if 0 < p.toNat ∧ k / divisor P.pwmCs % 256 ≤ (duty p).toNat then drivePattern m else ⟨true, false, false⟩ := by
  cases h with
  | stopped hp undriven shows =>
    rw [clockCycles_hb_of_not_driven P undriven, shows, if_neg (by simp [hp])]
  | driven hp start =>
    rw [(start.clockCycles k).shows]
    exact if_congr (and_iff_right (toNat_pos_of_ne_zero hp)).symm rfl rfl

/-- MDIR answers a next state, from which with no command every step is a cycle. -/
theorem run_of_exec_mdir (d : Direction) {s : State} (hagenda : s.agenda = []) :
    ∃ t, exec (.mdir (directionCode d)) s = .next t ∧ ∀ k, run k t = .next (clockCycles Config.params k t) := by
  refine ⟨_, exec_mdir (directionCode d) s, run_of_agenda_nil ?_⟩
  simpa using hagenda

/-! ### SAME_SPEED -/

/-- A source other than T0's two keeps its value under an update of those. -/
theorem PerSrc.get_update_t0 {α : Type} (p : PerSrc α) (a b : α) {x : Src} (hx : x ∉ [Src.t0Cmp, .t0Ovf]) :
    PerSrc.get { p with t0Cmp := a, t0Ovf := b } x = p.get x := by
  have hne : x ≠ .t0Cmp ∧ x ≠ .t0Ovf := by simpa using hx
  change ((p.set .t0Cmp a).set .t0Ovf b).get x = _
  rw [PerSrc.get_set, PerSrc.get_set, if_neg hne.2.symm, if_neg hne.1.symm]

/-- Binding and enabling T0's two sources leaves what the others drive. -/
theorem DrivenOnlyBy.update_t0 {c : HbChannel} {s t : State} (h : DrivenOnlyBy [.t0Cmp, .t0Ovf] c s)
    (hslot : t.slot = { s.slot with t0Cmp := t.slot.t0Cmp, t0Ovf := t.slot.t0Ovf })
    (hen : t.en = { s.en with t0Cmp := t.en.t0Cmp, t0Ovf := t.en.t0Ovf }) : DrivenOnlyBy [.t0Cmp, .t0Ovf] c t :=
  h.congr (fun x hx => by rw [hslot, PerSrc.get_update_t0 _ _ _ hx]) fun x hx _ hx' => by
    rwa [hen, PerSrc.get_update_t0 _ _ _ hx] at hx'

/-- MDIR in SAME_SPEED: T0 drives both channels at P1. -/
theorem mdirLeaves_same {s t : State} {d : Direction} (hmode : s.mc.smode = .same) (hgie : s.gie = true)
    (hother : NoOtherHbAction [.t0Cmp, .t0Ovf] s) (ht : exec (.mdir (directionCode d)) s = .next t) (c : HbChannel) :
    MdirLeaves Config.params .t0 c (codeFor c (.hb (drive1 d) (drive2 d))) s.mc.p1 t := by
  obtain ⟨-, -, hmdir⟩ := mdirDrivesInSameSpeed
  obtain ⟨hzero, hpos⟩ := hmdir s d hmode
  have hs := drivenOnlyBy_of_noOtherHbAction hother c
  by_cases hp : s.mc.p1 = 0
  · cases (hzero hp).symm.trans ht
    refine .stopped hp (DrivenOnlyBy.shrink (own := [.t0Cmp, .t0Ovf]) ?_ (by decide) ?_) (by cases c <;> rfl)
    · exact hs.update_t0 rfl rfl
    · simp [PerSrc.get]
  · cases (hpos hp).symm.trans ht
    exact .driven hp {
      gie         := hgie
      sets        := fun g => by cases c <;> simp [codeFor, applyCode_drive]
      timer       := ⟨rfl, rfl, rfl, .zero 8 _⟩
      cmpEn       := rfl
      restartEn   := rfl
      cmpSlot     := by cases c <;> rfl
      restartSlot := rfl
      others      := hs.update_t0 rfl rfl
      cmpFlag     := rfl
      restartFlag := rfl
      shows       := by rw [if_pos (inDrive_zero _ _)]; cases c <;> rfl }

/-- Settles O53: both channels follow T0's waveform. -/
theorem sameSpeedWaveform : Obligations.SameSpeedWaveform := by
  intro s d hagenda hgie hmode _ hother
  obtain ⟨t, ht, hrun⟩ := run_of_exec_mdir d hagenda
  refine ⟨t, ht, fun k => ⟨_, hrun k, ?_⟩⟩
  have h1 := (mdirLeaves_same hmode hgie hother ht .one).waveform k
  have h2 := (mdirLeaves_same hmode hgie hother ht .two).waveform k
  split <;> rename_i hdrive
  · rw [if_pos hdrive] at h1 h2; exact ⟨h1, h2⟩
  · rw [if_neg hdrive] at h1 h2; exact ⟨h1, h2⟩

/-! ### DIFFERENT_SPEEDS -/

/-- The four sources of the motor timers. -/
def motorSrcs : List Src := [.t0Cmp, .t0Ovf, .t1CmpA, .t1Capt]

/-- A source other than the motor timers' four keeps its value under an update of those. -/
theorem PerSrc.get_update_motor {α : Type} (p : PerSrc α) (a b a' b' : α) {x : Src} (hx : x ∉ motorSrcs) :
    PerSrc.get { p with t0Cmp := a, t0Ovf := b, t1CmpA := a', t1Capt := b' } x = p.get x := by
  have hne : x ≠ .t0Cmp ∧ x ≠ .t0Ovf ∧ x ≠ .t1CmpA ∧ x ≠ .t1Capt := by simpa [motorSrcs] using hx
  obtain ⟨h0, h1, h2, h3⟩ := hne
  change ((((p.set .t0Cmp a).set .t0Ovf b).set .t1CmpA a').set .t1Capt b').get x = _
  simp [h0.symm, h1.symm, h2.symm, h3.symm]

/-- Binding and enabling the motor timers' sources leaves what the others drive. -/
theorem DrivenOnlyBy.update_motor {c : HbChannel} {s t : State} (h : DrivenOnlyBy motorSrcs c s)
    (hslot : t.slot = { s.slot with
      t0Cmp := t.slot.t0Cmp, t0Ovf := t.slot.t0Ovf, t1CmpA := t.slot.t1CmpA, t1Capt := t.slot.t1Capt })
    (hen : t.en = { s.en with
      t0Cmp := t.en.t0Cmp, t0Ovf := t.en.t0Ovf, t1CmpA := t.en.t1CmpA, t1Capt := t.en.t1Capt }) :
    DrivenOnlyBy motorSrcs c t :=
  h.congr (fun x hx => by rw [hslot, PerSrc.get_update_motor _ _ _ _ _ hx]) fun x hx _ hx' => by
    rwa [hen, PerSrc.get_update_motor _ _ _ _ _ hx] at hx'

/-- A source that is enabled only above 0 %, with an action that leaves channel `c`, does not drive it. -/
theorem idle_of_keep {c : HbChannel} {p : BitVec 7} {a b : Action} (hb : codeFor c b = .keep) :
    decide (p ≠ 0) = false ∨ codeFor c (if p = 0 then a else b) = .keep := by
  by_cases hp : p = 0
  · exact .inl (decide_eq_false (not_not.2 hp))
  · exact .inr (by rw [if_neg hp, hb])

/-- MDIR in DIFFERENT_SPEEDS leaves channel 1 to T1's sources and channel 2 to T0's: the actions it binds leave the other channel. -/
theorem drivenOnlyBy_of_mdir_different {s t : State} {d : Direction} (hmode : s.mc.smode = .different)
    (hother : NoOtherHbAction motorSrcs s) (ht : exec (.mdir (directionCode d)) s = .next t) :
    DrivenOnlyBy [.t1CmpA, .t1Capt] .one t ∧ DrivenOnlyBy [.t0Cmp, .t0Ovf] .two t := by
  cases (mdirDrivesInDifferentSpeeds s d hmode).symm.trans ht
  refine ⟨DrivenOnlyBy.shrink (own := motorSrcs) ?_ (by decide) fun x hx hx' => ?_,
    DrivenOnlyBy.shrink (own := motorSrcs) ?_ (by decide) fun x hx hx' => ?_⟩
  · exact (drivenOnlyBy_of_noOtherHbAction hother .one).update_motor rfl rfl
  · obtain rfl | rfl : x = .t0Cmp ∨ x = .t0Ovf := by revert x; decide
    · exact idle_of_keep rfl
    · exact idle_of_keep rfl
  · exact (drivenOnlyBy_of_noOtherHbAction hother .two).update_motor rfl rfl
  · obtain rfl | rfl : x = .t1CmpA ∨ x = .t1Capt := by revert x; decide
    · exact idle_of_keep rfl
    · exact idle_of_keep rfl

/-- A channel that MDIR leaves to timer `n` alone: stopped with the timer's sources disabled, or at the start of PWM. -/
theorem MdirLeaves.intro {P : Params} {n : MotorTimer} {c : HbChannel} {m : HbCode} {p : BitVec 7} {t : State}
    (hgie : t.gie = true) (hm : ∀ g, applyCode m g = drivePattern m) (hown : DrivenOnlyBy [n.cmpSrc, n.restartSrc] c t)
    (hen : t.en.get n.cmpSrc = decide (p ≠ 0) ∧ t.en.get n.restartSrc = decide (p ≠ 0))
    (hshows : t.hb c = if p = 0 then ⟨true, false, false⟩ else drivePattern m)
    (hslot : p ≠ 0 → codeFor c (t.slot.get n.cmpSrc) = .fastStop ∧ codeFor c (t.slot.get n.restartSrc) = m)
    (hflag : p ≠ 0 → t.flag.get n.cmpSrc = false ∧ t.flag.get n.restartSrc = false)
    (htimer : p ≠ 0 → n.RunsPwm P.pwmCs p 0 t) : MdirLeaves P n c m p t := by
  obtain ⟨hcmpOvf, hrestartOvf, -⟩ := n.srcs_spec
  by_cases hp : p = 0
  · refine .stopped hp (hown.shrink ?_ ?_) (hshows.trans (if_pos hp))
    · simp [hcmpOvf.symm, hrestartOvf.symm]
    · simp [hen, hp]
  · obtain ⟨hcmpSlot, hrestartSlot⟩ := hslot hp
    obtain ⟨hcmpFlag, hrestartFlag⟩ := hflag hp
    exact .driven hp {
      gie         := hgie
      sets        := hm
      timer       := htimer hp
      cmpEn       := hen.1.trans (decide_eq_true hp)
      restartEn   := hen.2.trans (decide_eq_true hp)
      cmpSlot     := hcmpSlot
      restartSlot := hrestartSlot
      others      := hown
      cmpFlag     := hcmpFlag
      restartFlag := hrestartFlag
      shows       := by rw [hshows, if_neg hp, if_pos (inDrive_zero _ _)] }

/-- MDIR in DIFFERENT_SPEEDS: T1 drives channel 1 at P1, T0 channel 2 at P2. -/
theorem mdirLeaves_different {s t : State} {d : Direction} (hmode : s.mc.smode = .different) (hgie : s.gie = true)
    (hother : NoOtherHbAction motorSrcs s) (ht : exec (.mdir (directionCode d)) s = .next t) :
    MdirLeaves Config.params .t1 .one (drive1 d) s.mc.p1 t ∧ MdirLeaves Config.params .t0 .two (drive2 d) s.mc.p2 t := by
  obtain ⟨hone, htwo⟩ := drivenOnlyBy_of_mdir_different hmode hother ht
  cases (mdirDrivesInDifferentSpeeds s d hmode).symm.trans ht
  constructor
  · refine .intro hgie (fun g => (applyCode_drive d g).1) hone ⟨rfl, rfl⟩ rfl (fun hp => ?_) (fun hp => ?_) fun hp => ?_
    · exact ⟨congrArg (codeFor .one) (if_neg hp), congrArg (codeFor .one) (if_neg hp)⟩
    · exact ⟨congrArg (· && _) (decide_eq_false hp), congrArg (· && _) (decide_eq_false hp)⟩
    · rw [MotorTimer.RunsPwm, if_neg hp]; exact ⟨rfl, rfl, rfl, rfl, .zero 16 _⟩
  · refine .intro hgie (fun g => (applyCode_drive d g).2) htwo ⟨rfl, rfl⟩ rfl (fun hp => ?_) (fun hp => ?_) fun hp => ?_
    · exact ⟨congrArg (codeFor .two) (if_neg hp), congrArg (codeFor .two) (if_neg hp)⟩
    · exact ⟨congrArg (· && _) (decide_eq_false hp), congrArg (· && _) (decide_eq_false hp)⟩
    · rw [MotorTimer.RunsPwm, if_neg hp]; exact ⟨rfl, rfl, rfl, .zero 8 _⟩

/-- Settles O54: channel 1 follows T1's waveform at P1, channel 2 T0's at P2. -/
theorem differentSpeedsWaveform : Obligations.DifferentSpeedsWaveform := by
  intro s d hagenda hgie hmode _ _ hother
  obtain ⟨t, ht, hrun⟩ := run_of_exec_mdir d hagenda
  obtain ⟨hone, htwo⟩ := mdirLeaves_different hmode hgie hother ht
  exact ⟨t, ht, fun k => ⟨_, hrun k, hone.waveform k, htwo.waveform k⟩⟩

end Sys2Proof.Machine
end

section
/-! SUPPORT. The field checks of a command, written once as a list and once in its meaning (60_exceptions.md R321): each meaning runs
the list, so a legal command is accepted (O10). -/

namespace Sys2Proof.Machine

/-! ### The two writings of each check -/

theorem tmr_fails_iff (tmr : BitVec 2) : (tmr == 3) = true ↔ timerOf tmr = none :=
  beq_iff_eq.trans (timerOf_eq_none_iff tmr).symm

theorem cs_fails_iff (cs : BitVec 3) : decide (5 < cs.toNat) = true ↔ clockSelOf cs = none :=
  decide_eq_true_iff.trans (clockSelOf_eq_none_iff cs).symm

theorem src_fails_iff (src : BitVec 5) : decide (10 < src.toNat) = true ↔ srcOf src = none :=
  decide_eq_true_iff.trans (srcOf_eq_none_iff src).symm

/-- R112's reserved codes are those that R110 gives no action. -/
theorem act_fails_iff : ∀ act : BitVec 8, actIsReserved act = true ↔ actionOf act = none := by decide

theorem line_fails_iff (line : BitVec 2) : (line == 3) = true ↔ lineOf line = none :=
  beq_iff_eq.trans (lineOf_eq_none_iff line).symm

theorem hbCodes_fail_iff (m1 m2 : BitVec 3) :
    (decide (4 < m1.toNat) || decide (4 < m2.toNat)) = true ↔ hbCodeOf m1 = none ∨ hbCodeOf m2 = none := by
  simp only [Bool.or_eq_true, decide_eq_true_eq, hbCodeOf_eq_none_iff]

theorem percentage_fails_eq (p : BitVec 7) : decide (100 < p.toNat) = !isPercentage p := by
  rw [isPercentage, ← decide_not, decide_eq_decide, Nat.not_le]

section OfTimer

variable {tmr : BitVec 2} {n : TimerId} (hn : timerOf tmr = some n)
include hn

/-- The codes 0 and 2 of TMR are the 8-bit timers (00_scope.md R8). -/
theorem tmrIsEightBit_eq : tmrIsEightBit tmr = timerIs8 n := by
  revert n tmr; decide

theorem mode_fails_iff (mode : BitVec 2) : (tmrIsEightBit tmr && mode == 3) = true ↔ timerModeOf n mode = none := by
  rw [tmrIsEightBit_eq hn]
  revert mode; cases n <;> decide

theorem ch_fails_iff (ch : BitVec 1) : (ch == 1 && tmrIsEightBit tmr) = true ↔ channelOf n ch = none := by
  rw [tmrIsEightBit_eq hn]
  revert ch; cases n <;> decide

theorem val_fails_eq (val : BitVec 16) : (tmrIsEightBit tmr && decide (255 < val.toNat)) = !valFits n val := by
  rw [tmrIsEightBit_eq hn, valFits, Bool.not_or, Bool.not_not, ← decide_not]
  simp only [Nat.not_le]

end OfTimer

/-! ### A meaning runs its list of checks -/

/-- `r` comes of the checks in their order from the state `s`: the first that fails rejects, and where none fails `r` has the
property `A`. -/
inductive RunsChecks (s : State) (A : Result → Prop) : List (Reject × Bool) → Result → Prop
  | done {r} (h : A r) : RunsChecks s A [] r
  | fail {e cs} : RunsChecks s A ((e, true) :: cs) (rejected e s)
  | pass {e cs r} (h : RunsChecks s A cs r) : RunsChecks s A ((e, false) :: cs) r

section Rules

variable {s : State} {A : Result → Prop} {e : Reject} {fails : Bool} {cs : List (Reject × Bool)}

theorem runsChecks_withOperand {α : Type} {o : Option α} {k : α → Result} (hfails : fails = true ↔ o = none)
    (hk : ∀ a, o = some a → RunsChecks s A cs (k a)) : RunsChecks s A ((e, fails) :: cs) (withOperand o e s k) := by
  cases o with
  | none => rw [hfails.2 rfl]; exact .fail
  | some a =>
    obtain rfl : fails = false := by simpa using hfails
    exact .pass (hk a rfl)

/-- Two operands under one check. -/
theorem runsChecks_withOperands {α β : Type} {o : Option α} {o' : Option β} {k : α → β → Result}
    (hfails : fails = true ↔ o = none ∨ o' = none) (hk : ∀ a b, RunsChecks s A cs (k a b)) :
    RunsChecks s A ((e, fails) :: cs) (withOperand o e s fun a => withOperand o' e s (k a)) := by
  cases o with
  | none => rw [hfails.2 (.inl rfl)]; exact .fail
  | some a =>
    have hfails' : fails = true ↔ o' = none := by simpa using hfails
    rw [withOperand_some]
    exact runsChecks_withOperand hfails' fun b _ => hk a b

theorem runsChecks_require {ok : Bool} {k : Result} (hfails : fails = !ok) (hk : RunsChecks s A cs k) :
    RunsChecks s A ((e, fails) :: cs) (require ok e s k) := by
  cases ok <;> subst hfails
  · exact .fail
  · exact .pass hk

/-- Where no check fails, the property of an accepted command holds. -/
theorem RunsChecks.of_all_pass {r : Result} (h : RunsChecks s A cs r) (hpass : cs.all (fun c => !c.2) = true) : A r := by
  induction h with
  | done h => exact h
  | fail => simp at hpass
  | pass _ ih => exact ih (by simpa using hpass)

end Rules

/-- `r` accepts the command `i`, with DATA = 0 unless it is one of the two that read (45_access.md R303). -/
def Accepts (i : Instr) (r : Result) : Prop :=
  ∃ d u, r = accepted d u ∧ ((∀ a, i ≠ .rdreg a) → i ≠ .uread → d = 0)

theorem accepts_accepted_zero (i : Instr) (u : State) : Accepts i (accepted 0 u) := ⟨0, u, rfl, fun _ _ => rfl⟩

/-- The field checks listed for a command are those its meaning runs, in the same order (60_exceptions.md R321). -/
theorem exec_runsChecks (i : Instr) (s : State) : RunsChecks s (Accepts i) i.fieldChecks (exec i s) := by
  have ok (u : State) : RunsChecks s (Accepts i) [] (accepted 0 u) := .done (accepts_accepted_zero i u)
  cases i with
  | rdreg addr =>
    exact runsChecks_withOperand (regRead_eq_none_iff s addr).symm fun v _ =>
      .done ⟨v.setWidth 32, _, rfl, fun h _ => absurd rfl (h addr)⟩
  | uread => exact .done ⟨ureadData s.us, s, rfl, fun _ h => absurd rfl h⟩
  | tinit tmr mode cs =>
    exact runsChecks_withOperand (tmr_fails_iff tmr) fun n hn => runsChecks_withOperand (mode_fails_iff hn mode) fun m _ =>
      runsChecks_withOperand (cs_fails_iff cs) fun c _ => ok _
  | tstop tmr => exact runsChecks_withOperand (tmr_fails_iff tmr) fun n _ => ok _
  | tsetcnt tmr val =>
    exact runsChecks_withOperand (tmr_fails_iff tmr) fun n hn => runsChecks_require (val_fails_eq hn val) (ok _)
  | tsetocr tmr ch val =>
    exact runsChecks_withOperand (tmr_fails_iff tmr) fun n hn => runsChecks_withOperand (ch_fails_iff hn ch) fun c _ =>
      runsChecks_require (val_fails_eq hn val) (ok _)
  | tseticr tmr val => exact runsChecks_require rfl (ok _)
  | tsetduty tmr ch p =>
    exact runsChecks_withOperand (tmr_fails_iff tmr) fun n hn => runsChecks_withOperand (ch_fails_iff hn ch) fun c _ =>
      runsChecks_require (percentage_fails_eq p) (ok _)
  | tocpin tmr ch com =>
    exact runsChecks_withOperand (tmr_fails_iff tmr) fun n hn => runsChecks_withOperand (ch_fails_iff hn ch) fun c _ => ok _
  | evsetcb src act =>
    exact runsChecks_withOperand (src_fails_iff src) fun x _ => runsChecks_withOperand (act_fails_iff act) fun a _ => ok _
  | even src => exact runsChecks_withOperand (src_fails_iff src) fun x _ => ok _
  | evdis src => exact runsChecks_withOperand (src_fails_iff src) fun x _ => ok _
  | evclrf src => exact runsChecks_withOperand (src_fails_iff src) fun x _ => ok _
  | irqack src => exact runsChecks_withOperand (src_fails_iff src) fun x _ => ok _
  | xsense line sense => exact runsChecks_withOperand (line_fails_iff line) fun i _ => ok _
  | hbset m1 m2 => exact runsChecks_withOperands (hbCodes_fail_iff m1 m2) fun c1 c2 => ok _
  | mspeed p1 p2 =>
    refine runsChecks_require ?_ (ok _)
    rw [percentage_fails_eq, percentage_fails_eq, Bool.not_and]
  | _ => exact ok _

/-- Settles O10: a legal command passes every check of its list, so its meaning accepts it. -/
theorem legalCommandsAreAccepted : Obligations.LegalCommandsAreAccepted := by
  intro i s hwf
  obtain ⟨d, u, hexec, hdata⟩ := (exec_runsChecks i s).of_all_pass hwf
  exact ⟨u.respond d, hexec, rfl, rfl, hdata⟩

end Sys2Proof.Machine
end

section
/-! SUPPORT. The access commands and the global enable: what RDREG leaves in TEMP (O13), NOP, GIESET and GIECLR (O11). -/

namespace Sys2Proof.Machine

/-- The four addresses whose read latches TEMP, by address (20_memory.md R86). -/
theorem tempAfterRead_eq_ite (s : State) (a : Byte) :
    tempAfterRead s a =
      if a = 0x06 then s.t1.cnt.extractLsb' 8 8 else if a = 0x08 then s.t1.ocra.extractLsb' 8 8
      else if a = 0x0A then s.t1.ocrb.extractLsb' 8 8 else if a = 0x0C then s.t1.icr.extractLsb' 8 8 else s.temp := by
  unfold tempAfterRead
  split <;> simp_all [← BitVec.toNat_inj]

/-- An address that R85 does not list has a byte. -/
theorem exists_regRead_of_not_reserved (s : State) {a : Byte} (h : addrIsReserved a = false) : ∃ v, regRead s a = some v :=
  Option.ne_none_iff_exists'.1 fun hnone =>
    Bool.false_ne_true (h.symm.trans ((regRead_eq_none_iff s a).1 hnone))

/-- Settles O13: RDREG answers the byte and leaves `tempAfterRead`. -/
theorem rdregReturnsTheByteAndLatchesTemp : Obligations.RdregReturnsTheByteAndLatchesTemp := by
  intro s a ha
  obtain ⟨v, hv⟩ := exists_regRead_of_not_reserved s ha
  refine ⟨v, hv, ?_⟩
  rw [exec_rdreg_of_some hv, tempAfterRead_eq_ite]; rfl

/-- Settles O11: each command's meaning is one write and the response. -/
theorem nopAndGieCommands : Obligations.NopAndGieCommands := fun s => ⟨rfl, exec_gieset s, rfl⟩

end Sys2Proof.Machine
end

section
/-! SUPPORT. The first field check that fails (60_exceptions.md R321; O9): the codes of a command's checks ascend, and a meaning that
runs the list is rejected with the code of the first failure. -/

namespace Sys2Proof.Machine

/-- R321's codes of a command's checks, in the order in which they run. -/
theorem fieldChecks_codes_ascend (i : Instr) :
    (i.fieldChecks.map (fun c => (rejectCode c.1).toNat)).Pairwise (· < ·) := by
  cases i <;> simp [Instr.fieldChecks, rejectCode]

/-- Where a check fails, the first that does rejects the command. -/
theorem RunsChecks.of_first_failure {s : State} {A : Result → Prop} {cs : List (Reject × Bool)} {r : Result} {e : Reject}
    (h : RunsChecks s A cs r) (he : (cs.find? (fun c => c.2)).map (fun c => c.1) = some e) : r = rejected e s := by
  induction h with
  | done => simp at he
  | fail =>
    obtain rfl := Option.some.inj he
    rfl
  | pass _ ih => exact ih he

/-- Settles O9: the codes are R321's, they ascend along each list, and each meaning runs its list. -/
theorem firstFailingCheckRejects : Obligations.FirstFailingCheckRejects :=
  ⟨⟨rfl, rfl, rfl, rfl, rfl, rfl, rfl, rfl, rfl, rfl, rfl⟩, fieldChecks_codes_ascend,
    fun i s _ he => (exec_runsChecks i s).of_first_failure he⟩

end Sys2Proof.Machine
end

section
/-! SUPPORT. A cycle with GIE = 0 (60_exceptions.md R326, 70_reset_and_hazards.md R368; O31): it is TICK, PULSE and SAMPLE, and of these
only the end of a trigger pulse restarts the session's count or clears a flag. -/

namespace Sys2Proof.Machine

/-- With GIE = 0 a cycle ends where its DISPATCH phase would begin (R326). -/
theorem clockCycle_of_gie_false (P : Params) {s : State} (h : s.gie = false) :
    clockCycle P s = { atDispatch P s with env := s.env.tail } := by
  have hphase := dispatchPhase_of_gie_false P ((atDispatch_gie P s).trans h)
  have henv : (atDispatch P s).env = s.env := by simp [atDispatch, (pulsePhase_rtFrame P (tickPhase s)).env]
  rw [clockCycle_eq, hphase, henv]

/-- A PULSE phase that ends no pulse writes at most PCNT (43_ultrasonic.md R230). -/
theorem pulsePhase_of_ne_one (P : Params) {s : State} (h : s.us.pcnt ≠ 1) :
    ∃ n, pulsePhase P s = { s with us := { s.us with pcnt := n } } := by
  rcases pulsePhase_cases P s with ⟨-, e⟩ | ⟨-, -, e⟩ | ⟨-, hlast, -⟩
  · exact ⟨s.us.pcnt, e⟩
  · exact ⟨_, e⟩
  · exact absurd (by bv_omega) h

/-- The PULSE phase drives no H-bridge, interrupts no host, and leaves ON and the result (R230, R231). -/
theorem pulsePhase_keeps (P : Params) (s : State) :
    (pulsePhase P s).hb1 = s.hb1 ∧ (pulsePhase P s).hb2 = s.hb2 ∧ (pulsePhase P s).irqp = s.irqp ∧
    (pulsePhase P s).us.on = s.us.on ∧ (pulsePhase P s).us.resTicks = s.us.resTicks ∧
    (pulsePhase P s).us.resTo = s.us.resTo := by
  rcases pulsePhase_cases P s with ⟨-, e⟩ | ⟨-, -, e⟩ | ⟨-, -, e⟩ <;> rw [e]
  · exact ⟨rfl, rfl, rfl, rfl, rfl, rfl⟩
  · exact ⟨rfl, rfl, rfl, rfl, rfl, rfl⟩
  · rw [pulseEnd_eq]
    exact ⟨rfl, rfl, rfl, rfl, rfl, rfl⟩

/-- TICK, PULSE and SAMPLE together drive no H-bridge, interrupt no host, and leave ON and the result. -/
theorem atDispatch_keeps (P : Params) (s : State) :
    (atDispatch P s).hb1 = s.hb1 ∧ (atDispatch P s).hb2 = s.hb2 ∧ (atDispatch P s).irqp = s.irqp ∧
    (atDispatch P s).us.on = s.us.on ∧ (atDispatch P s).us.resTicks = s.us.resTicks ∧
    (atDispatch P s).us.resTo = s.us.resTo := by
  simp [atDispatch, pulsePhase_keeps]

/-- The PULSE phase clears no flag but RT_OVF's and ECHO_SRC's, and those only at a pulse's end (R231). -/
theorem pulsePhase_keeps_flag (P : Params) {s : State} {x : Src} (hx : s.flag.get x = true)
    (hend : x = .t2Ovf ∨ x = echoSrc P → s.us.pcnt ≠ 1) : (pulsePhase P s).flag.get x = true := by
  by_cases h : s.us.pcnt = 1
  · have hovf : .t2Ovf ≠ x := fun he => hend (.inl he.symm) h
    have hecho : echoSrc P ≠ x := fun he => hend (.inr he.symm) h
    rw [pulsePhase_of_one P h]
    simpa [hovf, hecho] using hx
  · obtain ⟨n, e⟩ := pulsePhase_of_ne_one P h
    rw [e]
    exact hx

/-- The SAMPLE phase never clears a flag (42_exti.md R205). -/
theorem samplePhase_keeps_flag (p : Pins) {s : State} {x : Src} (hx : s.flag.get x = true) :
    (samplePhase p s).flag.get x = true := by
  rw [samplePhase_eq]
  cases x with
  | int0 | int1 | int2 => exact Bool.or_eq_true_iff.2 (.inl hx)
  | _ => exact hx

/-- When DISPATCH begins every flag is still set that was set before the cycle, but for the two that a pulse's end clears. -/
theorem atDispatch_keeps_flag {P : Params} {s : State} {x : Src} (hx : s.flag.get x = true)
    (hend : x = .t2Ovf ∨ x = echoSrc P → s.us.pcnt ≠ 1) : (atDispatch P s).flag.get x = true :=
  samplePhase_keeps_flag _ (pulsePhase_keeps_flag P (tickPhase_keeps_flag s x hx) hend)

/-- Where no pulse ends, the phases before DISPATCH leave EXP and OVF, and RT only clocks. -/
theorem atDispatch_of_pcnt_ne_one (P : Params) {s : State} (h : s.us.pcnt ≠ 1) :
    (atDispatch P s).us.exp = s.us.exp ∧ (atDispatch P s).us.ovf = s.us.ovf ∧ (atDispatch P s).t2 = clock8 s.t2 := by
  obtain ⟨n, e⟩ := pulsePhase_of_ne_one P (s := tickPhase s) h
  rw [atDispatch, e]
  exact ⟨rfl, rfl, rfl⟩

/-- Settles O31: with GIE = 0 a cycle is the three phases before DISPATCH, and what is asked of it is what these leave. -/
theorem noActionRunsWithGieClear : Obligations.NoActionRunsWithGieClear := by
  intro P s hgie t
  have ht : t = { atDispatch P s with env := s.env.tail } := clockCycle_of_gie_false P hgie
  obtain ⟨hhb1, hhb2, hirqp, hon, hticks, hto⟩ := atDispatch_keeps P s
  refine ⟨dispatchPhase_of_gie_false P hgie, ht, ?_⟩
  rw [ht]
  exact ⟨atDispatch_of_pcnt_ne_one P, hhb1, hhb2, hirqp, hon, hticks, hto, fun _ => atDispatch_keeps_flag⟩

end Sys2Proof.Machine
end

section
/-! SUPPORT. The step itself: it always answers a next state (60_exceptions.md R333; O8), a HOST turn submits its word (45_access.md
R300; O6), and a CLOCK turn runs the four phases (10_state.md R33; O7). -/

namespace Sys2Proof.Machine

/-! ### No fault and no refusal -/

/-- A meaning that runs its list of checks answers a next state, if it does so once all have passed. -/
theorem RunsChecks.answers {s : State} {A : Result → Prop} {cs : List (Reject × Bool)} {r : Result} (h : RunsChecks s A cs r)
    (hA : ∀ r, A r → ∃ t, r = .next t) : ∃ t, r = .next t := by
  induction h with
  | done h => exact hA _ h
  | fail => exact ⟨_, rfl⟩
  | pass _ ih => exact ih

theorem exec_answers (i : Instr) (s : State) : ∃ t, exec i s = .next t :=
  (exec_runsChecks i s).answers fun _ ⟨d, u, hr, _⟩ => ⟨u.respond d, hr⟩

theorem hostCommand_answers (w : Word) (s : State) : ∃ t, hostCommand w s = .next t := by
  rcases hostCommand_cases w s with ⟨i, -, h⟩ | ⟨e, -, h⟩ <;> rw [h]
  · exact exec_answers i s
  · exact ⟨s.reject e, rfl⟩

/-- Settles O8: a HOST turn answers with its command or with the rejection, a CLOCK turn with the cycle. -/
theorem everyStepAnswersANextState : Obligations.EveryStepAnswersANextState := by
  intro s
  rcases step_cases s with ⟨w, rest, -, hstep⟩ | ⟨-, hstep⟩ <;> rw [hstep]
  · exact hostCommand_answers w { s with agenda := rest }
  · exact ⟨_, rfl⟩

/-! ### The HOST turn -/

/-- A word that decodes runs its command (45_access.md R300). -/
theorem hostCommand_of_ok {w : Word} {i : Instr} (h : decode w = .ok i) (s : State) : hostCommand w s = exec i s := by
  rw [hostCommand, h]

/-- A whole word is taken as it is (log 14). -/
theorem tableWord_toNat (w : Word) : tableWord 32 w.toNat = w := by
  rw [tableWord, Nat.mod_eq_of_lt w.isLt, BitVec.ofNat_toNat, BitVec.setWidth_eq]

/-- Settles O6: a HOST turn submits its word, which runs or is rejected as it decodes, and withFetchWord places such a turn. -/
theorem stepRunsTheDecodedCommand : Obligations.StepRunsTheDecodedCommand := by
  refine ⟨fun s w rest hagenda => ⟨step_of_agenda_host hagenda, fun e he => ?_⟩, fun s w rest i hagenda hi => ?_,
    fun s w i hi => ?_⟩
  · rw [step_of_agenda_host hagenda, hostCommand_of_error he]
    rfl
  · rw [step_of_agenda_host hagenda, hostCommand_of_ok hi]
  · rw [step_withFetchWord, tableWord_toNat, hostCommand_of_ok hi]

/-! ### The CLOCK turn -/

/-- A CLOCK turn, listed or not, runs one cycle in the state without it (10_state.md R33; log 2). -/
theorem step_of_nextTurn_clock {s : State} (h : nextTurn s = .clock) :
    step s = .next (clockCycle Config.params (dropTurn s)) := by
  rw [step, h, runTurn]

/-- Settles O7: the cycle is the four phases in order and then the script's advance, by definition. -/
theorem stepRunsTheFourPhases : Obligations.StepRunsTheFourPhases :=
  fun _ hclock => ⟨_, step_of_nextTurn_clock hclock, rfl⟩

end Sys2Proof.Machine
end
